-- ==== Sys2Proof/Word.lean ====
section
/-! DEFINITION. The one word of this hardware: the byte (rule R15).

Rule R14 of `spec/00_scope.md` says that no value is ever widened, so there is no other word type.
Lengths, counts and offsets are natural numbers (rule R13). -/

namespace Sys2Proof

/-- An integer 0 to 255 (R15), bit 0 the least significant bit (R12). -/
abbrev Byte := BitVec 8

end Sys2Proof
end

