-- ==== Sys2Proof/Config.lean ====
section
/-! DEFINITION. What one realisation of the block fixes: the configuration parameters of rules R9 and R10,
the types they are made of (R15, R76), the validity predicate of rule R263, and the free values of the
output ports (R37, R261).  The VALUES of the parameters are in `Sys2Proof/Machine/Tables.lean`. -/

namespace Sys2Proof

/-- The cap on the number of bytes considered (R9): "the longest valid x86 instruction". -/
def maxLen : Nat := 15

/-- The Operand Encoding Category (R76): closed at the fourteen members the source names (decision D8).
The names are those of the spec. -/
inductive Category
  | INV | PFX | NP | O | M | MR | MI8 | MRI8 | MI | AI8 | AI | D | I16 | II
  deriving DecidableEq, Repr

/-- A classification-table entry (R15, R74). -/
structure Entry where
  cat : Category
  imm64 : Bool
  multi : Bool
  deriving DecidableEq, Repr

/-- The parameter `IMMW_BOTH` (R10, R203, decision D11): the width of a selected immediate when both `66`
and a REX.W byte were seen. -/
inductive ImmwBoth
  | op16Wins | rexwWins
  deriving DecidableEq, Repr

/-- The parameter `SC_F7` (R10, R176, decision D16): whether opcode `F7` has a special-case arm. -/
inductive ScF7
  | arm | none
  deriving DecidableEq, Repr

/-- The parameters of rule R10.  The tables are total functions of a byte (R100). -/
structure Config where
  t1 : Byte → Entry
  t2 : Byte → Entry
  w01 : List Byte
  w38 : List Byte
  w3aI8 : List Byte
  w3aNI : List Byte
  immwBoth : ImmwBoth
  invalidSentinel : Int
  scF7 : ScF7

/-- The five categories that have a ModRM byte (R70, part 4). -/
def Category.hasModRM : Category → Bool
  | .M | .MR | .MI8 | .MRI8 | .MI => true
  | .INV | .PFX | .NP | .O | .AI8 | .AI | .D | .I16 | .II => false

/-- Configuration validity, rule R263: the pinned entries of rules R102 to R105, R110 to R115 and R118 to
R122, the constraints on the whitelists and the sentinel, and item 7 on `multi` entries.  Items 1 and 6
(totality, closed parameter types) hold by the types of `Config`. -/
structure Config.Valid (c : Config) : Prop where
  /-- R102 -/
  t1_0F : (c.t1 0x0F#8).cat = .PFX
  /-- R103 -/
  t1_66 : (c.t1 0x66#8).cat = .PFX
  /-- R104 -/
  t1_67 : (c.t1 0x67#8).cat = .PFX
  /-- R105 -/
  t1_48_4F : ∀ b : Byte, 0x48#8 ≤ b → b ≤ 0x4F#8 → (c.t1 b).cat = .PFX
  /-- R110 -/
  t1_90 : ((c.t1 0x90#8).cat = .NP ∨ (c.t1 0x90#8).cat = .O) ∧ (c.t1 0x90#8).multi = false
  /-- R111 -/
  t1_89 : ((c.t1 0x89#8).cat = .M ∨ (c.t1 0x89#8).cat = .MR) ∧ (c.t1 0x89#8).multi = false
  /-- R112 -/
  t1_83 : c.t1 0x83#8 = ⟨.MI8, false, false⟩
  /-- R113 -/
  t1_FF : (c.t1 0xFF#8).cat.hasModRM = true ∧ (c.t1 0xFF#8).multi = false
  /-- R114 -/
  t1_F6 : (c.t1 0xF6#8).multi = true
  /-- R115 -/
  t1_F7 : (c.t1 0xF7#8).multi = true
  /-- R118 -/
  t2_01 : (c.t2 0x01#8).multi = true
  /-- R119 -/
  t2_38 : (c.t2 0x38#8).multi = true
  /-- R120 -/
  t2_3A : (c.t2 0x3A#8).multi = true
  /-- R121 -/
  t2_1F : ((c.t2 0x1F#8).cat = .M ∨ (c.t2 0x1F#8).cat = .MR) ∧ (c.t2 0x1F#8).multi = false
  /-- R122 -/
  t2_80_8F : ∀ b : Byte, 0x80#8 ≤ b → b ≤ 0x8F#8 → c.t2 b = ⟨.D, false, false⟩
  /-- R173, R263 item 4 -/
  w38_small : ∀ b ∈ c.w38, b ≤ 0x0F#8
  /-- R174, R263 item 4 -/
  w3a_disjoint : ∀ b ∈ c.w3aI8, b ∉ c.w3aNI
  /-- R236, R263 item 5 -/
  sentinel_neg : c.invalidSentinel < 0
  /-- R263 item 7.  "Its `cat` is not read" (R75), while the prefix loop reads the `cat` of every `T1` entry
  (R190): no `multi` entry of a valid `T1` is tagged `PFX` (DEDUCED, assumption 7). -/
  t1_multi : ∀ b : Byte, (c.t1 b).multi = true → (c.t1 b).imm64 = false ∧ (c.t1 b).cat ≠ .PFX
  /-- R263 item 7 -/
  t2_multi : ∀ b : Byte, (c.t2 b).multi = true → (c.t2 b).imm64 = false

/-- FREE VALUE (assumption 3).  What `out_valid` carries at the k-th moment at which a transaction is
running: "unspecified until the transaction ends" (R37, R261, U13). -/
opaque Config.freeOutValid : Nat → Bool

/-- FREE VALUE (assumption 3).  What `out_len` carries at the k-th moment at which a transaction is running. -/
opaque Config.freeOutLen : Nat → BitVec 4

end Sys2Proof
end

