-- ==== Sys2Proof/Machine/State.lean ====
section
/-! DEFINITION. The state of the block as plain data (R20 to R37), its one exception's labels (R231), the result
type (R15), and the state after reset (R37, R260).

What is NOT state is in `Config.lean` and `Machine/Tables.lean`: the tables and the other parameters (R21). -/

namespace Sys2Proof.Machine

/-- The shell's phase (R35): where the state machine over the byte stream stands. -/
inductive Phase
  /-- No transaction. -/
  | idle
  /-- The prefix loop (R190 to R198); the byte at the cursor is looked up in `T1`. -/
  | prefixPhase
  /-- The opcode phase after the escape (R193): the byte at the cursor is looked up in `T2`. -/
  | opcodePhase
  /-- A `multi` entry has been found and the second byte is in the window (R199): the pair of opcode byte
  and second byte at the cursor is resolved and its length is computed (R201 to R219). -/
  | lengthPhase
  deriving DecidableEq, Repr

/-- The Decode Context, "the whole register state of a transaction" (R23). -/
structure Ctx where
  /-- `ctx.pfx`, 4 bits: the accumulated prefix count, the escape `0F` included. -/
  pfx : BitVec 4
  /-- `ctx.esc`: two-byte-opcode-escape seen. -/
  esc : Bool
  /-- `ctx.op16`: 16-bit operand-size override active. -/
  op16 : Bool
  /-- `ctx.addr16`: 16-bit address-size override active. -/
  addr16 : Bool
  /-- `ctx.rexw`: 64-bit-operand (REX.W) active. -/
  rexw : Bool
  deriving DecidableEq, Repr

/-- The Decode Context at the start of every transaction and after reset (R36, R37). -/
def Ctx.zero : Ctx := ⟨0, false, false, false, false⟩

/-- The caller's byte buffer (R50), by offset from the position to be measured: the listed bytes.  The
canonical form is `Memory.wf` and what an unlisted offset reads as is `Memory.unlisted`, both in
`Machine/Ops.lean`. -/
abbrev Memory := List Host.Cell

/-- The state of the block together with the inputs of the transaction it runs. -/
structure State where
  /-- R35. -/
  phase : Phase
  /-- R23. -/
  ctx : Ctx
  /-- The cursor `pos`, 4 bits (R27): the offset of the next byte to be examined. -/
  pos : BitVec 4
  /-- The output port `out_valid` (R33). -/
  outValid : Bool
  /-- The output port `out_len`, 4 bits (R33). -/
  outLen : BitVec 4
  /-- The input port `in_len` (R33, R34): a natural number, any width. -/
  inLen : Nat
  /-- The caller's buffer; lanes `in_bytes[0..14]` (R33) are its bytes at offsets 0 to 14
  (assumption 14). -/
  mem : Memory
  /-- THE MODEL'S OWN, not the spec's (assumption 3): how many free values the output ports have drawn. -/
  freeDraw : Nat
  deriving DecidableEq, Repr

/-- The internal cause labels of DecodeFailure (R231).  No output carries them (R232) and no state keeps
them (R30, R238): they are arguments of the operation that takes the failure. -/
inductive Cause
  /-- `DF_NO_OPCODE` (R192). -/
  | noOpcode
  /-- `DF_INVALID_OPCODE` (R205). -/
  | invalidOpcode
  /-- `DF_SPECIAL_SHORT` (R171). -/
  | specialShort
  /-- `DF_SPECIAL_UNLISTED` (R172 to R174, R177). -/
  | specialUnlisted
  /-- `DF_ADDR_SHORT` (R204). -/
  | addrShort
  /-- `DF_NO_RULE` (R218). -/
  | noRule
  /-- `DF_TRUNCATED` (R219). -/
  | truncated
  deriving DecidableEq, Repr

/-- The result of one transaction (R15, R236). -/
inductive Result
  | valid (length : Nat)
  | invalid
  deriving DecidableEq, Repr

/-- The faults of the machine: none.  The block's only error, DecodeFailure, is an outcome it produces on
its ports and goes on from (R230, R238), every read is guarded (R53), and "no behaviour of this block is
stuck" (93_implementation_defined.md, end of part 1; R265).  Nobody raises a fault, so there is nothing
safe or unsafe about one. -/
inductive Fault
  deriving DecidableEq, Repr

/-- The refusals: of an instruction without a meaning, and of the caller's breaches of contract, none of which a
`step` can raise. -/
inductive Refusal
  /-- An instruction without a meaning in this model (safe).  Raised only by a refused arm of `exec`;
  `exec` has no such arm. -/
  | notModelled (mnemonic : String)
  /-- Raised by the caller's `launch` when a transaction is running: the block performs transactions one at
  a time and the caller does nothing to it in between (R20).  Safe. -/
  | launchWhileBusy
  /-- Raised by the caller's `launch` when `len` exceeds the bytes the caller owns (R241, R267, U10:
  "refuse").  Safe. -/
  | untruthfulLength
  /-- Raised by the caller's `callerStore` when the buffer is written while a transaction runs (R63, R266,
  U11: "treat it as a refused launch, not pick one").  Safe. -/
  | windowWritten
  deriving DecidableEq, Repr

/-- The state right after hardware reset (R37, R260): `IDLE`, context and cursor zero, outputs zero.
`inLen`, `mem` and `freeDraw` are not the block's registers: DESIGN CHOICE, assumptions 1 and 3. -/
def State.reset : State where
  phase := .idle
  ctx := Ctx.zero
  pos := 0
  outValid := false
  outLen := 0
  inLen := 0
  mem := []
  freeDraw := 0

end Sys2Proof.Machine
end

