-- ==== Sys2Proof/Machine/Flags.lean ====
section
/-! DEFINITION. The flags of the block: exactly the four mode flags of the Decode Context (R25).  How the prefix
phase sets them (R191, R194 to R198) and the one computation that reads two of them, the selected immediate
width (R203). -/

namespace Sys2Proof.Machine

/-- R191: count one prefix byte; no flag changes (the whole effect of R198). -/
def Ctx.count (x : Ctx) : Ctx := { x with pfx := x.pfx + 1 }

/-- R194: the two-byte escape. -/
def Ctx.setEsc (x : Ctx) : Ctx := { x with esc := true }

/-- R195: the operand-size override. -/
def Ctx.setOp16 (x : Ctx) : Ctx := { x with op16 := true }

/-- R196: the address-size override. -/
def Ctx.setAddr16 (x : Ctx) : Ctx := { x with addr16 := true }

/-- R197: the REX.W forms. -/
def Ctx.setRexw (x : Ctx) : Ctx := { x with rexw := true }

/-- R191 with R194 to R198, by the VALUE of the consumed byte, as the pseudocode of R221 has it.  The rows
of the opcode table say the same class by class (`Machine/PrefixRows.lean`). -/
def Ctx.consume (x : Ctx) (b : Byte) : Ctx :=
  let x := x.count
  if b = 0x0F#8 then x.setEsc
  else if b = 0x66#8 then x.setOp16
  else if b = 0x67#8 then x.setAddr16
  else if 0x48#8 ≤ b ∧ b ≤ 0x4F#8 then x.setRexw
  else x

/-- The selected immediate width `immw(imm64)` (R203), in bytes: the pseudocode of the rule. -/
def immw (c : Config) (x : Ctx) (imm64 : Bool) : Nat :=
  if x.op16 = true ∧ x.rexw = true ∧ c.immwBoth = .rexwWins then (if imm64 then 8 else 4)
  else if x.op16 = true then 2
  else if x.rexw = true ∧ imm64 = true then 8
  else 4

end Sys2Proof.Machine
end

