-- ==== Sys2Proof/Machine/Operands.lean ====
section
/-! DEFINITION. The `modRM_addressing_size_unit` (R140 to R165): the fields of the ModRM and SIB bytes and the two
resolvers that give the number of addressing bytes (ModRM, SIB, displacement), 0 meaning "insufficient".

`buf` is the window (R61: one immutable array).  Every application of `buf` below stands behind the guard
on `rem` that R53 asks for, `rem` being the number of window bytes from the ModRM byte on (R140). -/

namespace Sys2Proof.Machine

/-- ModRM `mod`, bits 7 to 6 (R71). -/
def modField (m : Byte) : BitVec 2 := m.extractLsb' 6 2

/-- ModRM `reg`, bits 5 to 3 (R71). -/
def regField (m : Byte) : BitVec 3 := m.extractLsb' 3 3

/-- ModRM `rm`, bits 2 to 0 (R71). -/
def rmField (m : Byte) : BitVec 3 := m.extractLsb' 0 3

/-- SIB `scale`, bits 7 to 6 (R72); no rule reads it. -/
def scaleField (s : Byte) : BitVec 2 := s.extractLsb' 6 2

/-- SIB `index`, bits 5 to 3 (R72). -/
def indexField (s : Byte) : BitVec 3 := s.extractLsb' 3 3

/-- SIB `base`, bits 2 to 0 (R72). -/
def baseField (s : Byte) : BitVec 3 := s.extractLsb' 0 3

/-- The size of ModRM + SIB + displacement for a SIB byte under `mod = 0`, `rm = 4` (R147, R148): six only
when `base = 5` AND `index = 4`, as the source states it (U5). -/
def sibSize (s : Byte) : Nat := if baseField s = 5#3 ∧ indexField s = 4#3 then 6 else 2

/-- The window test of both resolvers (R151, R161). -/
def fits (r rem : Nat) : Nat := if r > rem then 0 else r

/-- `Addr32(o, rem)`, 32/64-bit addressing (R141 to R152). -/
def addr32 (buf : Nat → Byte) (o rem : Nat) : Nat :=
  if rem < 1 then 0
  else
    let m := buf o
    if modField m = 3#2 then fits 1 rem
    else if modField m = 0#2 then
      if rmField m = 4#3 then
        if rem < 2 then 0 else fits (sibSize (buf (o + 1))) rem
      else if rmField m = 5#3 then fits 5 rem
      else fits 1 rem
    else if modField m = 1#2 then fits (if rmField m = 4#3 then 3 else 2) rem
    else fits (if rmField m = 4#3 then 6 else 5) rem

/-- `Addr16(o, rem)`, 16-bit addressing: no SIB (R153 to R162). -/
def addr16 (buf : Nat → Byte) (o rem : Nat) : Nat :=
  if rem < 1 then 0
  else
    let m := buf o
    if modField m = 3#2 then fits 1 rem
    else if modField m = 0#2 then fits (if rmField m = 6#3 then 3 else 1) rem
    else if modField m = 1#2 then fits 2 rem
    else fits 3 rem

/-- The resolver that `ctx.addr16` selects (R204). -/
def addrSize (x : Ctx) (buf : Nat → Byte) (o rem : Nat) : Nat :=
  if x.addr16 then addr16 buf o rem else addr32 buf o rem

end Sys2Proof.Machine
end

