-- ==== Sys2Proof/Machine/Tables.lean ====
section
/-! DEFINITION. The default instantiation: the tables `T1` (R124) and `T2` (R125), the whitelists (R172 to R174)
and the scalar parameters (R203, R176, R236), gathered in `defaultConfig`; `machineConfig` is the
configuration the machine of `Sys2Proof/Machine` is built with.

The grids are rules R124 and R125 row by row: row = high nibble, column = low nibble.  Every entry that
rules R102 to R123 do not pin is the spec's own general knowledge (R127; assumption 4). -/

namespace Sys2Proof.Machine

/-- A cell of the grids of R124 and R125 without a mark. -/
def plain (cat : Category) : Entry := ⟨cat, false, false⟩

/-- A cell marked `*` (`multi = 1`). -/
def multi (cat : Category) : Entry := ⟨cat, false, true⟩

/-- A cell marked `+64` (`imm64 = 1`). -/
def wide (cat : Category) : Entry := ⟨cat, true, false⟩

open Category in
/-- Rows `0` to `7` of the default `T1` (R124). -/
def t1GridLow : List (List Entry) :=
  [ [plain MR, plain MR, plain MR, plain MR, plain AI8, plain AI, plain INV, plain INV,
     plain MR, plain MR, plain MR, plain MR, plain AI8, plain AI, plain INV, plain PFX],
    [plain MR, plain MR, plain MR, plain MR, plain AI8, plain AI, plain INV, plain INV,
     plain MR, plain MR, plain MR, plain MR, plain AI8, plain AI, plain INV, plain INV],
    [plain MR, plain MR, plain MR, plain MR, plain AI8, plain AI, plain PFX, plain INV,
     plain MR, plain MR, plain MR, plain MR, plain AI8, plain AI, plain PFX, plain INV],
    [plain MR, plain MR, plain MR, plain MR, plain AI8, plain AI, plain PFX, plain INV,
     plain MR, plain MR, plain MR, plain MR, plain AI8, plain AI, plain PFX, plain INV],
    [plain PFX, plain PFX, plain PFX, plain PFX, plain PFX, plain PFX, plain PFX, plain PFX,
     plain PFX, plain PFX, plain PFX, plain PFX, plain PFX, plain PFX, plain PFX, plain PFX],
    [plain O, plain O, plain O, plain O, plain O, plain O, plain O, plain O,
     plain O, plain O, plain O, plain O, plain O, plain O, plain O, plain O],
    [plain INV, plain INV, plain INV, plain MR, plain PFX, plain PFX, plain PFX, plain PFX,
     plain AI, plain MI, plain AI8, plain MI8, plain NP, plain NP, plain NP, plain NP],
    [plain AI8, plain AI8, plain AI8, plain AI8, plain AI8, plain AI8, plain AI8, plain AI8,
     plain AI8, plain AI8, plain AI8, plain AI8, plain AI8, plain AI8, plain AI8, plain AI8] ]

open Category in
/-- Rows `8` to `F` of the default `T1` (R124). -/
def t1GridHigh : List (List Entry) :=
  [ [plain MI8, plain MI, plain INV, plain MI8, plain MR, plain MR, plain MR, plain MR,
     plain MR, plain MR, plain MR, plain MR, plain MR, plain MR, plain MR, plain M],
    [plain NP, plain O, plain O, plain O, plain O, plain O, plain O, plain O,
     plain NP, plain NP, plain INV, plain NP, plain NP, plain NP, plain NP, plain NP],
    [plain INV, plain INV, plain INV, plain INV, plain NP, plain NP, plain NP, plain NP,
     plain AI8, plain AI, plain NP, plain NP, plain NP, plain NP, plain NP, plain NP],
    [plain AI8, plain AI8, plain AI8, plain AI8, plain AI8, plain AI8, plain AI8, plain AI8,
     wide AI, wide AI, wide AI, wide AI, wide AI, wide AI, wide AI, wide AI],
    [plain MI8, plain MI8, plain I16, plain NP, plain INV, plain INV, plain MI8, plain MI,
     plain II, plain NP, plain I16, plain NP, plain NP, plain AI8, plain INV, plain NP],
    [plain M, plain M, plain M, plain M, plain INV, plain INV, plain INV, plain NP,
     plain M, plain M, plain M, plain M, plain M, plain M, plain M, plain M],
    [plain AI8, plain AI8, plain AI8, plain AI8, plain AI8, plain AI8, plain AI8, plain AI8,
     plain D, plain D, plain INV, plain AI8, plain NP, plain NP, plain NP, plain NP],
    [plain PFX, plain NP, plain PFX, plain PFX, plain NP, plain NP, multi M, multi M,
     plain NP, plain NP, plain NP, plain NP, plain NP, plain NP, plain M, plain M] ]

open Category in
/-- Rows `0` to `7` of the default `T2` (R125). -/
def t2GridLow : List (List Entry) :=
  [ [plain M, multi M, plain MR, plain MR, plain INV, plain NP, plain NP, plain NP,
     plain NP, plain NP, plain INV, plain NP, plain INV, plain M, plain INV, plain INV],
    [plain MR, plain MR, plain MR, plain MR, plain MR, plain MR, plain MR, plain MR,
     plain M, plain M, plain M, plain M, plain M, plain M, plain M, plain M],
    [plain MR, plain MR, plain MR, plain MR, plain INV, plain INV, plain INV, plain INV,
     plain MR, plain MR, plain MR, plain MR, plain MR, plain MR, plain MR, plain MR],
    [plain NP, plain NP, plain NP, plain NP, plain NP, plain NP, plain INV, plain NP,
     multi MR, plain INV, multi MRI8, plain INV, plain INV, plain INV, plain INV, plain INV],
    [plain MR, plain MR, plain MR, plain MR, plain MR, plain MR, plain MR, plain MR,
     plain MR, plain MR, plain MR, plain MR, plain MR, plain MR, plain MR, plain MR],
    [plain MR, plain MR, plain MR, plain MR, plain MR, plain MR, plain MR, plain MR,
     plain MR, plain MR, plain MR, plain MR, plain MR, plain MR, plain MR, plain MR],
    [plain MR, plain MR, plain MR, plain MR, plain MR, plain MR, plain MR, plain MR,
     plain MR, plain MR, plain MR, plain MR, plain MR, plain MR, plain MR, plain MR],
    [plain MRI8, plain MI8, plain MI8, plain MI8, plain MR, plain MR, plain MR, plain NP,
     plain MR, plain MR, plain INV, plain INV, plain MR, plain MR, plain MR, plain MR] ]

open Category in
/-- Rows `8` to `F` of the default `T2` (R125). -/
def t2GridHigh : List (List Entry) :=
  [ [plain D, plain D, plain D, plain D, plain D, plain D, plain D, plain D,
     plain D, plain D, plain D, plain D, plain D, plain D, plain D, plain D],
    [plain M, plain M, plain M, plain M, plain M, plain M, plain M, plain M,
     plain M, plain M, plain M, plain M, plain M, plain M, plain M, plain M],
    [plain NP, plain NP, plain NP, plain MR, plain MRI8, plain MR, plain INV, plain INV,
     plain NP, plain NP, plain NP, plain MR, plain MRI8, plain MR, plain M, plain MR],
    [plain MR, plain MR, plain MR, plain MR, plain MR, plain MR, plain MR, plain MR,
     plain MR, plain M, plain MI8, plain MR, plain MR, plain MR, plain MR, plain MR],
    [plain MR, plain MR, plain MRI8, plain MR, plain MRI8, plain MRI8, plain MRI8, plain M,
     plain O, plain O, plain O, plain O, plain O, plain O, plain O, plain O],
    [plain MR, plain MR, plain MR, plain MR, plain MR, plain MR, plain MR, plain MR,
     plain MR, plain MR, plain MR, plain MR, plain MR, plain MR, plain MR, plain MR],
    [plain MR, plain MR, plain MR, plain MR, plain MR, plain MR, plain MR, plain MR,
     plain MR, plain MR, plain MR, plain MR, plain MR, plain MR, plain MR, plain MR],
    [plain MR, plain MR, plain MR, plain MR, plain MR, plain MR, plain MR, plain MR,
     plain MR, plain MR, plain MR, plain MR, plain MR, plain MR, plain MR, plain INV] ]

/-- The cell at row `b[7:4]`, column `b[3:0]` of a grid. -/
def gridEntry (grid : List (List Entry)) (b : Byte) : Entry :=
  (grid.getD (b.toNat / 16) []).getD (b.toNat % 16) (plain .INV)

/-- The default `T1` (R124). -/
def defaultT1 (b : Byte) : Entry := gridEntry (t1GridLow ++ t1GridHigh) b

/-- The default `T2` (R125). -/
def defaultT2 (b : Byte) : Entry := gridEntry (t2GridLow ++ t2GridHigh) b

/-- The default `W01`: no member (R172, decision D13). -/
def defaultW01 : List Byte := []

/-- The default `W38`: `00` to `0B` (R173, decision D14). -/
def defaultW38 : List Byte :=
  [0x00#8, 0x01#8, 0x02#8, 0x03#8, 0x04#8, 0x05#8, 0x06#8, 0x07#8, 0x08#8, 0x09#8, 0x0A#8, 0x0B#8]

/-- The default `W3A_I8`: `08`..`0F`, `14`..`17`, `20`..`22`, `40`..`42`, `44`, `60`..`63`, `DF` (R174,
decision D15). -/
def defaultW3aI8 : List Byte :=
  [0x08#8, 0x09#8, 0x0A#8, 0x0B#8, 0x0C#8, 0x0D#8, 0x0E#8, 0x0F#8, 0x14#8, 0x15#8, 0x16#8, 0x17#8]
  ++ [0x20#8, 0x21#8, 0x22#8, 0x40#8, 0x41#8, 0x42#8, 0x44#8, 0x60#8, 0x61#8, 0x62#8, 0x63#8, 0xDF#8]

/-- The default `W3A_NI`: no member (R174, decision D15). -/
def defaultW3aNI : List Byte := []

/-- The default configuration of R124 to R126, R172 to R176, R203, R236. -/
def defaultConfig : Config where
  t1 := defaultT1
  t2 := defaultT2
  w01 := defaultW01
  w38 := defaultW38
  w3aI8 := defaultW3aI8
  w3aNI := defaultW3aNI
  immwBoth := .op16Wins
  invalidSentinel := -1
  scF7 := .arm

/-- The configuration the machine is built with: the tables are compiled in (R262, decision D23). -/
def machineConfig : Config := defaultConfig

end Sys2Proof.Machine
end

