-- ==== Sys2Proof/Machine/Ops.lean ====
section
/-! DEFINITION. The named operations over the window, the Decode Context, the cursor and the ports: reading the
window (R50 to R58), consuming a prefix byte (R191), handing over to the resolver (R171, R199), producing a
length (R219), taking the one exception (R230 to R240), hardware reset (R37, R260) and the start of a
transaction (R36, R37, R264).

There is no return-from-exception operation: "there is no return instruction and nothing to restore" (R239). -/

namespace Sys2Proof.Machine

/-! ### Memory -/

/-- What an offset that the list does not name reads as: DESIGN CHOICE, assumption 2.  No rule reads a byte
the caller did not supply (R53, R241), so this value only keeps the representation canonical. -/
def Memory.unlisted : Byte := 0

/-- The canonical form: offsets strictly rising, no entry equal to `Memory.unlisted`. -/
def Memory.wf : Memory → Bool
  | [] => true
  | [(_, b)] => b != Memory.unlisted
  | (i, b) :: (j, d) :: m => decide (i < j) && b != Memory.unlisted && Memory.wf ((j, d) :: m)

/-- The byte at offset `i` (R52: one byte wide, no side effect). -/
def Memory.read : Memory → Nat → Byte
  | [], _ => Memory.unlisted
  | (j, b) :: m, i => if j = i then b else Memory.read m i

/-- Put byte `b` at offset `i`, keeping the canonical form.  Only the CALLER writes its buffer, between
transactions (R51, R63). -/
def Memory.write : Memory → Nat → Byte → Memory
  | [], i, b => if b = Memory.unlisted then [] else [(i, b)]
  | (j, d) :: m, i, b =>
    if i < j then (if b = Memory.unlisted then (j, d) :: m else (i, b) :: (j, d) :: m)
    else if i = j then (if b = Memory.unlisted then m else (i, b) :: m)
    else (j, d) :: Memory.write m i b

/-- The buffer that holds the bytes `bs` from offset `k` on. -/
def Memory.ofBytesAt : Nat → List Byte → Memory
  | _, [] => []
  | k, b :: bs =>
    if b = Memory.unlisted then Memory.ofBytesAt (k + 1) bs else (k, b) :: Memory.ofBytesAt (k + 1) bs

/-- The buffer that holds the bytes `bs`, byte `i` at offset `i` (R33). -/
def Memory.ofBytes (bs : List Byte) : Memory := Memory.ofBytesAt 0 bs

/-! ### The window -/

/-- `n = min(len, 15)` (R9, R54). -/
def State.window (s : State) : Nat := min s.inLen maxLen

/-- The caller's byte at offset `i`; the rules apply it only below `n` (R53). -/
def State.byte (s : State) (i : Nat) : Byte := s.mem.read i

/-- The guarded read `Buf(i)` of R52 and R53: defined only for `i < n`. -/
def State.buf (s : State) (i : Nat) : Option Byte := if i < s.window then some (s.byte i) else none

/-- At most `k` window bytes from offset `i` on, each read behind its guard. -/
def State.bytesAt (s : State) (i : Nat) : Nat → List Byte
  | 0 => []
  | k + 1 =>
    match s.buf i with
    | none => []
    | some b => b :: s.bytesAt (i + 1) k

/-! ### Outputs -/

/-- While a transaction runs the output ports carry any value (R37, R261, U13): both draw a free value. -/
def State.driveUnspecified (s : State) : State :=
  { s with
    outValid := Config.freeOutValid s.freeDraw
    outLen := Config.freeOutLen s.freeDraw
    freeDraw := s.freeDraw + 1 }

/-- Taking DecodeFailure, the one exception (R230): the transaction ends with `Invalid` on the ports (R236,
R33) and the block is `IDLE` (R238).  Nothing is saved, no cause is kept (R30, R232), the window is
unchanged, and the context and cursor keep the values they have (R240; assumptions 8, 9). -/
def takeDecodeFailure (_cause : Cause) (s : State) : State :=
  { s with phase := .idle, outValid := false, outLen := 0 }

/-- The end of an arm that computed the candidate `L`: the final bound check and, if it passes, `Valid(L)`
on the ports (R219, R33). -/
def returnLength (L : Nat) (s : State) : State :=
  if L > s.window then takeDecodeFailure .truncated s
  else { s with phase := .idle, outValid := true, outLen := BitVec.ofNat 4 L }

/-- The result on the ports of an idle block (R33, R236). -/
def State.result (s : State) : Result := if s.outValid then .valid s.outLen.toNat else .invalid

/-- What a software binding returns (R33, R236). -/
def Result.toInt (c : Config) : Result → Int
  | .valid L => (L : Int)
  | .invalid => c.invalidSentinel

/-! ### The phases -/

/-- Consuming one prefix byte (R191): count it, apply its class's effect `flag`, move the cursor with the
count (R27) and go on in phase `next`. -/
def consumeByte (flag : Ctx → Ctx) (next : Phase) (s : State) : State :=
  let x := flag s.ctx.count
  State.driveUnspecified { s with phase := next, ctx := x, pos := x.pfx }

/-- The cursor steps over the `opc` opcode bytes (R27, R28, R200; assumption 9). -/
def State.advance (opc : Nat) (s : State) : State :=
  { s with pos := BitVec.ofNat 4 (s.ctx.pfx.toNat + opc) }

/-- A `multi` entry was found at offset `ctx.pfx` (R199): the second-byte guard of R171, `rem < 2`, and then
the resolver's turn. -/
def enterResolver (s : State) : State :=
  if s.window - s.ctx.pfx.toNat < 2 then takeDecodeFailure .specialShort s
  else State.driveUnspecified { s with phase := .lengthPhase }

/-! ### Reset and the start of a transaction -/

/-- The asynchronous hardware reset (R37, R260): the block's registers and ports; the constants and the
caller's inputs are not affected (assumptions 1, 11). -/
def hardwareReset (s : State) : State :=
  { s with phase := .idle, ctx := Ctx.zero, pos := 0, outValid := false, outLen := 0 }

/-- The start of a transaction on the buffer `bs` with `in_len = len` (R264): context and cursor zero (R36),
phase `PREFIX`, outputs unspecified (R37). -/
def startTransaction (bs : List Byte) (len : Nat) (s : State) : State :=
  State.driveUnspecified
    { s with phase := .prefixPhase, ctx := Ctx.zero, pos := 0, inLen := len, mem := Memory.ofBytes bs }

end Sys2Proof.Machine
end

