-- ==== Sys2Proof/Machine/Length.lean ====
section
/-! DEFINITION. Length resolution: one operation per Operand Encoding Category (R205 to R218), the dispatch over
them (R201), and the two ends of the special-case resolver that the rows share (R176, R177).

`extra` is the count of extra opcode bytes (R170, R199); the opcode occupies `1 + extra` bytes (R200). -/

namespace Sys2Proof.Machine

/-- The arms without a ModRM byte: `bytes` counts the first opcode byte and the immediate. -/
def sizePlain (bytes extra : Nat) (s : State) : State :=
  returnLength (s.ctx.pfx.toNat + bytes + extra) (s.advance (1 + extra))

/-- The five ModRM arms (R204, R208 to R212): the ModRM byte is at `o = pfx + opc`, `rem = n - o`; a zero from
the resolver is DecodeFailure; `imm` is the number of immediate bytes. -/
def sizeModRM (extra imm : Nat) (s : State) : State :=
  let opc := 1 + extra
  let o := s.ctx.pfx.toNat + opc
  let a := addrSize s.ctx s.byte o (s.window - o)
  if a = 0 then takeDecodeFailure .addrShort (s.advance opc)
  else returnLength (s.ctx.pfx.toNat + opc + a + imm) (s.advance opc)

/-- R205. -/
def catINV (s : State) : State := takeDecodeFailure .invalidOpcode s

/-- R218. -/
def catPFX (s : State) : State := takeDecodeFailure .noRule s

/-- R206. -/
def catNP (extra : Nat) (s : State) : State := sizePlain 1 extra s

/-- R207: the length of `NP`. -/
def catO (extra : Nat) (s : State) : State := sizePlain 1 extra s

/-- R208. -/
def catM (extra : Nat) (s : State) : State := sizeModRM extra 0 s

/-- R209: the length of `M`. -/
def catMR (extra : Nat) (s : State) : State := sizeModRM extra 0 s

/-- R210. -/
def catMI8 (extra : Nat) (s : State) : State := sizeModRM extra 1 s

/-- R211: the length of `MI8`. -/
def catMRI8 (extra : Nat) (s : State) : State := sizeModRM extra 1 s

/-- R212. -/
def catMI (imm64 : Bool) (extra : Nat) (s : State) : State :=
  sizeModRM extra (immw machineConfig s.ctx imm64) s

/-- R213. -/
def catAI8 (extra : Nat) (s : State) : State := sizePlain 2 extra s

/-- R214. -/
def catAI (imm64 : Bool) (extra : Nat) (s : State) : State :=
  sizePlain (1 + immw machineConfig s.ctx imm64) extra s

/-- R215: a displacement of the selected width, never 8. -/
def catD (extra : Nat) (s : State) : State := sizePlain (1 + immw machineConfig s.ctx false) extra s

/-- R216. -/
def catI16 (extra : Nat) (s : State) : State := sizePlain 3 extra s

/-- R217. -/
def catII (extra : Nat) (s : State) : State := sizePlain 4 extra s

/-- The dispatch on the resolved entry's category (R201): one arm per member, no wildcard. -/
def resolveLength (cat : Category) (imm64 : Bool) (extra : Nat) (s : State) : State :=
  match cat with
  | .INV => catINV s
  | .PFX => catPFX s
  | .NP => catNP extra s
  | .O => catO extra s
  | .M => catM extra s
  | .MR => catMR extra s
  | .MI8 => catMI8 extra s
  | .MRI8 => catMRI8 extra s
  | .MI => catMI imm64 extra s
  | .AI8 => catAI8 extra s
  | .AI => catAI imm64 extra s
  | .D => catD extra s
  | .I16 => catI16 extra s
  | .II => catII extra s

/-- A second byte in no list of its arm (R172 to R174), or no arm (R177). -/
def unlisted (s : State) : State := takeDecodeFailure .specialUnlisted s

/-- The `F7` arm exists when `SC_F7 = ARM` (R176); otherwise `F7` falls to R177. -/
def underArmF7 (arm : State → State) (s : State) : State :=
  match machineConfig.scF7 with
  | .arm => arm s
  | .none => unlisted s

end Sys2Proof.Machine
end

