-- ==== Sys2Proof/Syntax.lean ====
section
/-! DEFINITION. The syntax: one constructor per row of `spec/opcode_table.json` (R17, R85), 248 rows.

A row that covers an aligned block of indexes carries the free low bits of its byte (`lo`); a `reg`-dependent
row of `F6` and `F7` carries the other two ModRM fields; a row that stands for a SET of second bytes carries
that byte (`op2`).  The rows stand in the table's order but for the resolver's rows, of which those with an
operand come before the rows of `T2` (the compiler numbers constructors that carry data below 245).  No operand of the MEASURED instruction is here (R7, R29). -/

namespace Sys2Proof

/-- The rows of the opcode table. -/
inductive Instr
  /-- `OP1_00_03`: `00` to `03`; MR; R209. -/
  | op1_00_03 (lo : BitVec 2)
  /-- `OP1_04`: `04`; AI8; R213. -/
  | op1_04
  /-- `OP1_05`: `05`; AI; R214. -/
  | op1_05
  /-- `OP1_06_07`: `06` to `07`; INV; R205. -/
  | op1_06_07 (lo : BitVec 1)
  /-- `OP1_08_0B`: `08` to `0B`; MR; R209. -/
  | op1_08_0B (lo : BitVec 2)
  /-- `OP1_0C`: `0C`; AI8; R213. -/
  | op1_0C
  /-- `OP1_0D`: `0D`; AI; R214. -/
  | op1_0D
  /-- `OP1_0E`: `0E`; INV; R205. -/
  | op1_0E
  /-- `OP1_0F`: `0F`; PFX; R194. -/
  | op1_0F
  /-- `OP1_10_13`: `10` to `13`; MR; R209. -/
  | op1_10_13 (lo : BitVec 2)
  /-- `OP1_14`: `14`; AI8; R213. -/
  | op1_14
  /-- `OP1_15`: `15`; AI; R214. -/
  | op1_15
  /-- `OP1_16_17`: `16` to `17`; INV; R205. -/
  | op1_16_17 (lo : BitVec 1)
  /-- `OP1_18_1B`: `18` to `1B`; MR; R209. -/
  | op1_18_1B (lo : BitVec 2)
  /-- `OP1_1C`: `1C`; AI8; R213. -/
  | op1_1C
  /-- `OP1_1D`: `1D`; AI; R214. -/
  | op1_1D
  /-- `OP1_1E_1F`: `1E` to `1F`; INV; R205. -/
  | op1_1E_1F (lo : BitVec 1)
  /-- `OP1_20_23`: `20` to `23`; MR; R209. -/
  | op1_20_23 (lo : BitVec 2)
  /-- `OP1_24`: `24`; AI8; R213. -/
  | op1_24
  /-- `OP1_25`: `25`; AI; R214. -/
  | op1_25
  /-- `OP1_26`: `26`; PFX; R198. -/
  | op1_26
  /-- `OP1_27`: `27`; INV; R205. -/
  | op1_27
  /-- `OP1_28_2B`: `28` to `2B`; MR; R209. -/
  | op1_28_2B (lo : BitVec 2)
  /-- `OP1_2C`: `2C`; AI8; R213. -/
  | op1_2C
  /-- `OP1_2D`: `2D`; AI; R214. -/
  | op1_2D
  /-- `OP1_2E`: `2E`; PFX; R198. -/
  | op1_2E
  /-- `OP1_2F`: `2F`; INV; R205. -/
  | op1_2F
  /-- `OP1_30_33`: `30` to `33`; MR; R209. -/
  | op1_30_33 (lo : BitVec 2)
  /-- `OP1_34`: `34`; AI8; R213. -/
  | op1_34
  /-- `OP1_35`: `35`; AI; R214. -/
  | op1_35
  /-- `OP1_36`: `36`; PFX; R198. -/
  | op1_36
  /-- `OP1_37`: `37`; INV; R205. -/
  | op1_37
  /-- `OP1_38_3B`: `38` to `3B`; MR; R209. -/
  | op1_38_3B (lo : BitVec 2)
  /-- `OP1_3C`: `3C`; AI8; R213. -/
  | op1_3C
  /-- `OP1_3D`: `3D`; AI; R214. -/
  | op1_3D
  /-- `OP1_3E`: `3E`; PFX; R198. -/
  | op1_3E
  /-- `OP1_3F`: `3F`; INV; R205. -/
  | op1_3F
  /-- `OP1_40_47`: `40` to `47`; PFX; R198. -/
  | op1_40_47 (lo : BitVec 3)
  /-- `OP1_48_4F`: `48` to `4F`; PFX; R197. -/
  | op1_48_4F (lo : BitVec 3)
  /-- `OP1_50_57`: `50` to `57`; O; R207. -/
  | op1_50_57 (lo : BitVec 3)
  /-- `OP1_58_5F`: `58` to `5F`; O; R207. -/
  | op1_58_5F (lo : BitVec 3)
  /-- `OP1_60_61`: `60` to `61`; INV; R205. -/
  | op1_60_61 (lo : BitVec 1)
  /-- `OP1_62`: `62`; INV; R205. -/
  | op1_62
  /-- `OP1_63`: `63`; MR; R209. -/
  | op1_63
  /-- `OP1_64_65`: `64` to `65`; PFX; R198. -/
  | op1_64_65 (lo : BitVec 1)
  /-- `OP1_66`: `66`; PFX; R195. -/
  | op1_66
  /-- `OP1_67`: `67`; PFX; R196. -/
  | op1_67
  /-- `OP1_68`: `68`; AI; R214. -/
  | op1_68
  /-- `OP1_69`: `69`; MI; R212. -/
  | op1_69
  /-- `OP1_6A`: `6A`; AI8; R213. -/
  | op1_6A
  /-- `OP1_6B`: `6B`; MI8; R210. -/
  | op1_6B
  /-- `OP1_6C_6F`: `6C` to `6F`; NP; R206. -/
  | op1_6C_6F (lo : BitVec 2)
  /-- `OP1_70_7F`: `70` to `7F`; AI8; R213. -/
  | op1_70_7F (lo : BitVec 4)
  /-- `OP1_80`: `80`; MI8; R210. -/
  | op1_80
  /-- `OP1_81`: `81`; MI; R212. -/
  | op1_81
  /-- `OP1_82`: `82`; INV; R205. -/
  | op1_82
  /-- `OP1_83`: `83`; MI8; R210. -/
  | op1_83
  /-- `OP1_84_87`: `84` to `87`; MR; R209. -/
  | op1_84_87 (lo : BitVec 2)
  /-- `OP1_88`: `88`; MR; R209. -/
  | op1_88
  /-- `OP1_89`: `89`; MR; R209. -/
  | op1_89
  /-- `OP1_8A_8B`: `8A` to `8B`; MR; R209. -/
  | op1_8A_8B (lo : BitVec 1)
  /-- `OP1_8C_8D`: `8C` to `8D`; MR; R209. -/
  | op1_8C_8D (lo : BitVec 1)
  /-- `OP1_8E`: `8E`; MR; R209. -/
  | op1_8E
  /-- `OP1_8F`: `8F`; M; R208. -/
  | op1_8F
  /-- `OP1_90`: `90`; NP; R206. -/
  | op1_90
  /-- `OP1_91`: `91`; O; R207. -/
  | op1_91
  /-- `OP1_92_93`: `92` to `93`; O; R207. -/
  | op1_92_93 (lo : BitVec 1)
  /-- `OP1_94_97`: `94` to `97`; O; R207. -/
  | op1_94_97 (lo : BitVec 2)
  /-- `OP1_98_99`: `98` to `99`; NP; R206. -/
  | op1_98_99 (lo : BitVec 1)
  /-- `OP1_9A`: `9A`; INV; R205. -/
  | op1_9A
  /-- `OP1_9B`: `9B`; NP; R206. -/
  | op1_9B
  /-- `OP1_9C_9F`: `9C` to `9F`; NP; R206. -/
  | op1_9C_9F (lo : BitVec 2)
  /-- `OP1_A0_A3`: `A0` to `A3`; INV; R205. -/
  | op1_A0_A3 (lo : BitVec 2)
  /-- `OP1_A4_A7`: `A4` to `A7`; NP; R206. -/
  | op1_A4_A7 (lo : BitVec 2)
  /-- `OP1_A8`: `A8`; AI8; R213. -/
  | op1_A8
  /-- `OP1_A9`: `A9`; AI; R214. -/
  | op1_A9
  /-- `OP1_AA_AB`: `AA` to `AB`; NP; R206. -/
  | op1_AA_AB (lo : BitVec 1)
  /-- `OP1_AC_AF`: `AC` to `AF`; NP; R206. -/
  | op1_AC_AF (lo : BitVec 2)
  /-- `OP1_B0_B7`: `B0` to `B7`; AI8; R213. -/
  | op1_B0_B7 (lo : BitVec 3)
  /-- `OP1_B8_BF`: `B8` to `BF`; AI, imm64; R214. -/
  | op1_B8_BF (lo : BitVec 3)
  /-- `OP1_C0_C1`: `C0` to `C1`; MI8; R210. -/
  | op1_C0_C1 (lo : BitVec 1)
  /-- `OP1_C2`: `C2`; I16; R216. -/
  | op1_C2
  /-- `OP1_C3`: `C3`; NP; R206. -/
  | op1_C3
  /-- `OP1_C4_C5`: `C4` to `C5`; INV; R205. -/
  | op1_C4_C5 (lo : BitVec 1)
  /-- `OP1_C6`: `C6`; MI8; R210. -/
  | op1_C6
  /-- `OP1_C7`: `C7`; MI; R212. -/
  | op1_C7
  /-- `OP1_C8`: `C8`; II; R217. -/
  | op1_C8
  /-- `OP1_C9`: `C9`; NP; R206. -/
  | op1_C9
  /-- `OP1_CA`: `CA`; I16; R216. -/
  | op1_CA
  /-- `OP1_CB`: `CB`; NP; R206. -/
  | op1_CB
  /-- `OP1_CC`: `CC`; NP; R206. -/
  | op1_CC
  /-- `OP1_CD`: `CD`; AI8; R213. -/
  | op1_CD
  /-- `OP1_CE`: `CE`; INV; R205. -/
  | op1_CE
  /-- `OP1_CF`: `CF`; NP; R206. -/
  | op1_CF
  /-- `OP1_D0_D3`: `D0` to `D3`; M; R208. -/
  | op1_D0_D3 (lo : BitVec 2)
  /-- `OP1_D4_D5`: `D4` to `D5`; INV; R205. -/
  | op1_D4_D5 (lo : BitVec 1)
  /-- `OP1_D6`: `D6`; INV; R205. -/
  | op1_D6
  /-- `OP1_D7`: `D7`; NP; R206. -/
  | op1_D7
  /-- `OP1_D8_DF`: `D8` to `DF`; M; R208. -/
  | op1_D8_DF (lo : BitVec 3)
  /-- `OP1_E0_E3`: `E0` to `E3`; AI8; R213. -/
  | op1_E0_E3 (lo : BitVec 2)
  /-- `OP1_E4_E7`: `E4` to `E7`; AI8; R213. -/
  | op1_E4_E7 (lo : BitVec 2)
  /-- `OP1_E8_E9`: `E8` to `E9`; D; R215. -/
  | op1_E8_E9 (lo : BitVec 1)
  /-- `OP1_EA`: `EA`; INV; R205. -/
  | op1_EA
  /-- `OP1_EB`: `EB`; AI8; R213. -/
  | op1_EB
  /-- `OP1_EC_EF`: `EC` to `EF`; NP; R206. -/
  | op1_EC_EF (lo : BitVec 2)
  /-- `OP1_F0`: `F0`; PFX; R198. -/
  | op1_F0
  /-- `OP1_F1`: `F1`; NP; R206. -/
  | op1_F1
  /-- `OP1_F2_F3`: `F2` to `F3`; PFX; R198. -/
  | op1_F2_F3 (lo : BitVec 1)
  /-- `OP1_F4_F5`: `F4` to `F5`; NP; R206. -/
  | op1_F4_F5 (lo : BitVec 1)
  /-- `OP1_F6`: `F6`; SPECIAL; R175. -/
  | op1_F6
  /-- `OP1_F7`: `F7`; SPECIAL; R176. -/
  | op1_F7
  /-- `OP1_F8_FB`: `F8` to `FB`; NP; R206. -/
  | op1_F8_FB (lo : BitVec 2)
  /-- `OP1_FC_FD`: `FC` to `FD`; NP; R206. -/
  | op1_FC_FD (lo : BitVec 1)
  /-- `OP1_FE`: `FE`; M; R208. -/
  | op1_FE
  /-- `OP1_FF`: `FF`; M; R208. -/
  | op1_FF
  /-- `OP1_F6_r0`: `F6` with ModRM `reg = 0`; MI8; R175. -/
  | op1_F6_r0 (mod : BitVec 2) (rm : BitVec 3)
  /-- `OP1_F6_r1`: `F6` with ModRM `reg = 1`; MI8; R175. -/
  | op1_F6_r1 (mod : BitVec 2) (rm : BitVec 3)
  /-- `OP1_F6_r2`: `F6` with ModRM `reg = 2`; M; R175. -/
  | op1_F6_r2 (mod : BitVec 2) (rm : BitVec 3)
  /-- `OP1_F6_r3`: `F6` with ModRM `reg = 3`; M; R175. -/
  | op1_F6_r3 (mod : BitVec 2) (rm : BitVec 3)
  /-- `OP1_F6_r4`: `F6` with ModRM `reg = 4`; M; R175. -/
  | op1_F6_r4 (mod : BitVec 2) (rm : BitVec 3)
  /-- `OP1_F6_r5`: `F6` with ModRM `reg = 5`; M; R175. -/
  | op1_F6_r5 (mod : BitVec 2) (rm : BitVec 3)
  /-- `OP1_F6_r6`: `F6` with ModRM `reg = 6`; M; R175. -/
  | op1_F6_r6 (mod : BitVec 2) (rm : BitVec 3)
  /-- `OP1_F6_r7`: `F6` with ModRM `reg = 7`; M; R175. -/
  | op1_F6_r7 (mod : BitVec 2) (rm : BitVec 3)
  /-- `OP1_F7_r0`: `F7` with ModRM `reg = 0`; MI; R176. -/
  | op1_F7_r0 (mod : BitVec 2) (rm : BitVec 3)
  /-- `OP1_F7_r1`: `F7` with ModRM `reg = 1`; MI; R176. -/
  | op1_F7_r1 (mod : BitVec 2) (rm : BitVec 3)
  /-- `OP1_F7_r2`: `F7` with ModRM `reg = 2`; M; R176. -/
  | op1_F7_r2 (mod : BitVec 2) (rm : BitVec 3)
  /-- `OP1_F7_r3`: `F7` with ModRM `reg = 3`; M; R176. -/
  | op1_F7_r3 (mod : BitVec 2) (rm : BitVec 3)
  /-- `OP1_F7_r4`: `F7` with ModRM `reg = 4`; M; R176. -/
  | op1_F7_r4 (mod : BitVec 2) (rm : BitVec 3)
  /-- `OP1_F7_r5`: `F7` with ModRM `reg = 5`; M; R176. -/
  | op1_F7_r5 (mod : BitVec 2) (rm : BitVec 3)
  /-- `OP1_F7_r6`: `F7` with ModRM `reg = 6`; M; R176. -/
  | op1_F7_r6 (mod : BitVec 2) (rm : BitVec 3)
  /-- `OP1_F7_r7`: `F7` with ModRM `reg = 7`; M; R176. -/
  | op1_F7_r7 (mod : BitVec 2) (rm : BitVec 3)
  /-- `OP2_01_inW01`: `0F 01 op2`, `op2` in W01; M, extra 1; R172. -/
  | op2_01_inW01 (op2 : Byte)
  /-- `OP2_01_other`: `0F 01 op2`, `op2` in complement of W01; INV; R172. -/
  | op2_01_other (op2 : Byte)
  /-- `OP2_38_other`: `0F 38 op2`, `op2` in complement of W38; INV; R173. -/
  | op2_38_other (op2 : Byte)
  /-- `OP2_3A_inW3A_NI`: `0F 3A op2`, `op2` in W3A_NI; MR, extra 1; R174. -/
  | op2_3A_inW3A_NI (op2 : Byte)
  /-- `OP2_3A_other`: `0F 3A op2`, `op2` in complement of W3A_I8 and W3A_NI; INV; R174. -/
  | op2_3A_other (op2 : Byte)
  /-- `OP2_00`: `0F 00`; M; R208. -/
  | op2_00
  /-- `OP2_01`: `0F 01`; SPECIAL; R172. -/
  | op2_01
  /-- `OP2_02_03`: `0F 02` to `0F 03`; MR; R209. -/
  | op2_02_03 (lo : BitVec 1)
  /-- `OP2_04`: `0F 04`; INV; R205. -/
  | op2_04
  /-- `OP2_05`: `0F 05`; NP; R206. -/
  | op2_05
  /-- `OP2_06_07`: `0F 06` to `0F 07`; NP; R206. -/
  | op2_06_07 (lo : BitVec 1)
  /-- `OP2_08_09`: `0F 08` to `0F 09`; NP; R206. -/
  | op2_08_09 (lo : BitVec 1)
  /-- `OP2_0A`: `0F 0A`; INV; R205. -/
  | op2_0A
  /-- `OP2_0B`: `0F 0B`; NP; R206. -/
  | op2_0B
  /-- `OP2_0C`: `0F 0C`; INV; R205. -/
  | op2_0C
  /-- `OP2_0D`: `0F 0D`; M; R208. -/
  | op2_0D
  /-- `OP2_0E_0F`: `0F 0E` to `0F 0F`; INV; R205. -/
  | op2_0E_0F (lo : BitVec 1)
  /-- `OP2_10_17`: `0F 10` to `0F 17`; MR; R209. -/
  | op2_10_17 (lo : BitVec 3)
  /-- `OP2_18_1B`: `0F 18` to `0F 1B`; M; R208. -/
  | op2_18_1B (lo : BitVec 2)
  /-- `OP2_1C_1D`: `0F 1C` to `0F 1D`; M; R208. -/
  | op2_1C_1D (lo : BitVec 1)
  /-- `OP2_1E`: `0F 1E`; M; R208. -/
  | op2_1E
  /-- `OP2_1F`: `0F 1F`; M; R208. -/
  | op2_1F
  /-- `OP2_20_23`: `0F 20` to `0F 23`; MR; R209. -/
  | op2_20_23 (lo : BitVec 2)
  /-- `OP2_24_27`: `0F 24` to `0F 27`; INV; R205. -/
  | op2_24_27 (lo : BitVec 2)
  /-- `OP2_28_2F`: `0F 28` to `0F 2F`; MR; R209. -/
  | op2_28_2F (lo : BitVec 3)
  /-- `OP2_30_33`: `0F 30` to `0F 33`; NP; R206. -/
  | op2_30_33 (lo : BitVec 2)
  /-- `OP2_34_35`: `0F 34` to `0F 35`; NP; R206. -/
  | op2_34_35 (lo : BitVec 1)
  /-- `OP2_36`: `0F 36`; INV; R205. -/
  | op2_36
  /-- `OP2_37`: `0F 37`; NP; R206. -/
  | op2_37
  /-- `OP2_38`: `0F 38`; SPECIAL; R173. -/
  | op2_38
  /-- `OP2_39`: `0F 39`; INV; R205. -/
  | op2_39
  /-- `OP2_3A`: `0F 3A`; SPECIAL; R174. -/
  | op2_3A
  /-- `OP2_3B`: `0F 3B`; INV; R205. -/
  | op2_3B
  /-- `OP2_3C_3F`: `0F 3C` to `0F 3F`; INV; R205. -/
  | op2_3C_3F (lo : BitVec 2)
  /-- `OP2_40_4F`: `0F 40` to `0F 4F`; MR; R209. -/
  | op2_40_4F (lo : BitVec 4)
  /-- `OP2_50_5F`: `0F 50` to `0F 5F`; MR; R209. -/
  | op2_50_5F (lo : BitVec 4)
  /-- `OP2_60_6F`: `0F 60` to `0F 6F`; MR; R209. -/
  | op2_60_6F (lo : BitVec 4)
  /-- `OP2_70`: `0F 70`; MRI8; R211. -/
  | op2_70
  /-- `OP2_71`: `0F 71`; MI8; R210. -/
  | op2_71
  /-- `OP2_72_73`: `0F 72` to `0F 73`; MI8; R210. -/
  | op2_72_73 (lo : BitVec 1)
  /-- `OP2_74_75`: `0F 74` to `0F 75`; MR; R209. -/
  | op2_74_75 (lo : BitVec 1)
  /-- `OP2_76`: `0F 76`; MR; R209. -/
  | op2_76
  /-- `OP2_77`: `0F 77`; NP; R206. -/
  | op2_77
  /-- `OP2_78_79`: `0F 78` to `0F 79`; MR; R209. -/
  | op2_78_79 (lo : BitVec 1)
  /-- `OP2_7A_7B`: `0F 7A` to `0F 7B`; INV; R205. -/
  | op2_7A_7B (lo : BitVec 1)
  /-- `OP2_7C_7F`: `0F 7C` to `0F 7F`; MR; R209. -/
  | op2_7C_7F (lo : BitVec 2)
  /-- `OP2_80_8F`: `0F 80` to `0F 8F`; D; R215. -/
  | op2_80_8F (lo : BitVec 4)
  /-- `OP2_90_9F`: `0F 90` to `0F 9F`; M; R208. -/
  | op2_90_9F (lo : BitVec 4)
  /-- `OP2_A0_A1`: `0F A0` to `0F A1`; NP; R206. -/
  | op2_A0_A1 (lo : BitVec 1)
  /-- `OP2_A2`: `0F A2`; NP; R206. -/
  | op2_A2
  /-- `OP2_A3`: `0F A3`; MR; R209. -/
  | op2_A3
  /-- `OP2_A4`: `0F A4`; MRI8; R211. -/
  | op2_A4
  /-- `OP2_A5`: `0F A5`; MR; R209. -/
  | op2_A5
  /-- `OP2_A6_A7`: `0F A6` to `0F A7`; INV; R205. -/
  | op2_A6_A7 (lo : BitVec 1)
  /-- `OP2_A8_A9`: `0F A8` to `0F A9`; NP; R206. -/
  | op2_A8_A9 (lo : BitVec 1)
  /-- `OP2_AA`: `0F AA`; NP; R206. -/
  | op2_AA
  /-- `OP2_AB`: `0F AB`; MR; R209. -/
  | op2_AB
  /-- `OP2_AC`: `0F AC`; MRI8; R211. -/
  | op2_AC
  /-- `OP2_AD`: `0F AD`; MR; R209. -/
  | op2_AD
  /-- `OP2_AE`: `0F AE`; M; R208. -/
  | op2_AE
  /-- `OP2_AF`: `0F AF`; MR; R209. -/
  | op2_AF
  /-- `OP2_B0_B7`: `0F B0` to `0F B7`; MR; R209. -/
  | op2_B0_B7 (lo : BitVec 3)
  /-- `OP2_B8`: `0F B8`; MR; R209. -/
  | op2_B8
  /-- `OP2_B9`: `0F B9`; M; R208. -/
  | op2_B9
  /-- `OP2_BA`: `0F BA`; MI8; R210. -/
  | op2_BA
  /-- `OP2_BB`: `0F BB`; MR; R209. -/
  | op2_BB
  /-- `OP2_BC_BF`: `0F BC` to `0F BF`; MR; R209. -/
  | op2_BC_BF (lo : BitVec 2)
  /-- `OP2_C0_C1`: `0F C0` to `0F C1`; MR; R209. -/
  | op2_C0_C1 (lo : BitVec 1)
  /-- `OP2_C2`: `0F C2`; MRI8; R211. -/
  | op2_C2
  /-- `OP2_C3`: `0F C3`; MR; R209. -/
  | op2_C3
  /-- `OP2_C4_C5`: `0F C4` to `0F C5`; MRI8; R211. -/
  | op2_C4_C5 (lo : BitVec 1)
  /-- `OP2_C6`: `0F C6`; MRI8; R211. -/
  | op2_C6
  /-- `OP2_C7`: `0F C7`; M; R208. -/
  | op2_C7
  /-- `OP2_C8_CF`: `0F C8` to `0F CF`; O; R207. -/
  | op2_C8_CF (lo : BitVec 3)
  /-- `OP2_D0_DF`: `0F D0` to `0F DF`; MR; R209. -/
  | op2_D0_DF (lo : BitVec 4)
  /-- `OP2_E0_EF`: `0F E0` to `0F EF`; MR; R209. -/
  | op2_E0_EF (lo : BitVec 4)
  /-- `OP2_F0_F7`: `0F F0` to `0F F7`; MR; R209. -/
  | op2_F0_F7 (lo : BitVec 3)
  /-- `OP2_F8_FB`: `0F F8` to `0F FB`; MR; R209. -/
  | op2_F8_FB (lo : BitVec 2)
  /-- `OP2_FC_FD`: `0F FC` to `0F FD`; MR; R209. -/
  | op2_FC_FD (lo : BitVec 1)
  /-- `OP2_FE`: `0F FE`; MR; R209. -/
  | op2_FE
  /-- `OP2_FF`: `0F FF`; INV; R205. -/
  | op2_FF
  /-- `OP2_38_00`: `0F 38 00`; MR, extra 1; R173. -/
  | op2_38_00
  /-- `OP2_38_01`: `0F 38 01`; MR, extra 1; R173. -/
  | op2_38_01
  /-- `OP2_38_02`: `0F 38 02`; MR, extra 1; R173. -/
  | op2_38_02
  /-- `OP2_38_03`: `0F 38 03`; MR, extra 1; R173. -/
  | op2_38_03
  /-- `OP2_38_04`: `0F 38 04`; MR, extra 1; R173. -/
  | op2_38_04
  /-- `OP2_38_05`: `0F 38 05`; MR, extra 1; R173. -/
  | op2_38_05
  /-- `OP2_38_06`: `0F 38 06`; MR, extra 1; R173. -/
  | op2_38_06
  /-- `OP2_38_07`: `0F 38 07`; MR, extra 1; R173. -/
  | op2_38_07
  /-- `OP2_38_08`: `0F 38 08`; MR, extra 1; R173. -/
  | op2_38_08
  /-- `OP2_38_09`: `0F 38 09`; MR, extra 1; R173. -/
  | op2_38_09
  /-- `OP2_38_0A`: `0F 38 0A`; MR, extra 1; R173. -/
  | op2_38_0A
  /-- `OP2_38_0B`: `0F 38 0B`; MR, extra 1; R173. -/
  | op2_38_0B
  /-- `OP2_3A_08`: `0F 3A 08`; MRI8, extra 1; R174. -/
  | op2_3A_08
  /-- `OP2_3A_09`: `0F 3A 09`; MRI8, extra 1; R174. -/
  | op2_3A_09
  /-- `OP2_3A_0A`: `0F 3A 0A`; MRI8, extra 1; R174. -/
  | op2_3A_0A
  /-- `OP2_3A_0B`: `0F 3A 0B`; MRI8, extra 1; R174. -/
  | op2_3A_0B
  /-- `OP2_3A_0C`: `0F 3A 0C`; MRI8, extra 1; R174. -/
  | op2_3A_0C
  /-- `OP2_3A_0D`: `0F 3A 0D`; MRI8, extra 1; R174. -/
  | op2_3A_0D
  /-- `OP2_3A_0E`: `0F 3A 0E`; MRI8, extra 1; R174. -/
  | op2_3A_0E
  /-- `OP2_3A_0F`: `0F 3A 0F`; MRI8, extra 1; R174. -/
  | op2_3A_0F
  /-- `OP2_3A_14`: `0F 3A 14`; MRI8, extra 1; R174. -/
  | op2_3A_14
  /-- `OP2_3A_15`: `0F 3A 15`; MRI8, extra 1; R174. -/
  | op2_3A_15
  /-- `OP2_3A_16`: `0F 3A 16`; MRI8, extra 1; R174. -/
  | op2_3A_16
  /-- `OP2_3A_17`: `0F 3A 17`; MRI8, extra 1; R174. -/
  | op2_3A_17
  /-- `OP2_3A_20`: `0F 3A 20`; MRI8, extra 1; R174. -/
  | op2_3A_20
  /-- `OP2_3A_21`: `0F 3A 21`; MRI8, extra 1; R174. -/
  | op2_3A_21
  /-- `OP2_3A_22`: `0F 3A 22`; MRI8, extra 1; R174. -/
  | op2_3A_22
  /-- `OP2_3A_40`: `0F 3A 40`; MRI8, extra 1; R174. -/
  | op2_3A_40
  /-- `OP2_3A_41`: `0F 3A 41`; MRI8, extra 1; R174. -/
  | op2_3A_41
  /-- `OP2_3A_42`: `0F 3A 42`; MRI8, extra 1; R174. -/
  | op2_3A_42
  /-- `OP2_3A_44`: `0F 3A 44`; MRI8, extra 1; R174. -/
  | op2_3A_44
  /-- `OP2_3A_60`: `0F 3A 60`; MRI8, extra 1; R174. -/
  | op2_3A_60
  /-- `OP2_3A_61`: `0F 3A 61`; MRI8, extra 1; R174. -/
  | op2_3A_61
  /-- `OP2_3A_62`: `0F 3A 62`; MRI8, extra 1; R174. -/
  | op2_3A_62
  /-- `OP2_3A_63`: `0F 3A 63`; MRI8, extra 1; R174. -/
  | op2_3A_63
  /-- `OP2_3A_DF`: `0F 3A DF`; MRI8, extra 1; R174. -/
  | op2_3A_DF
  deriving DecidableEq, Repr

/-- What a row's `fields` say of it (R85): its entry and the count of extra opcode bytes. -/
structure RowFields where
  entry : Entry
  extra : Nat
  deriving DecidableEq, Repr

end Sys2Proof
end

