-- ==== Sys2Proof/Machine/ImmRows.lean ====
section
/-! DEFINITION. The rows of `T1` and `T2` of categories `AI8`, `AI`, `D`, `I16` and `II` (R213 to R217). -/

namespace Sys2Proof.Machine

/-- `OP1_04`, `04`: AI8 (R213). -/
def execOp1_04 (s : State) : Host.Outcome State Fault Refusal :=
  .next (catAI8 0 s)

/-- `OP1_05`, `05`: AI (R214). -/
def execOp1_05 (s : State) : Host.Outcome State Fault Refusal :=
  .next (catAI false 0 s)

/-- `OP1_0C`, `0C`: AI8 (R213). -/
def execOp1_0C (s : State) : Host.Outcome State Fault Refusal :=
  .next (catAI8 0 s)

/-- `OP1_0D`, `0D`: AI (R214). -/
def execOp1_0D (s : State) : Host.Outcome State Fault Refusal :=
  .next (catAI false 0 s)

/-- `OP1_14`, `14`: AI8 (R213). -/
def execOp1_14 (s : State) : Host.Outcome State Fault Refusal :=
  .next (catAI8 0 s)

/-- `OP1_15`, `15`: AI (R214). -/
def execOp1_15 (s : State) : Host.Outcome State Fault Refusal :=
  .next (catAI false 0 s)

/-- `OP1_1C`, `1C`: AI8 (R213). -/
def execOp1_1C (s : State) : Host.Outcome State Fault Refusal :=
  .next (catAI8 0 s)

/-- `OP1_1D`, `1D`: AI (R214). -/
def execOp1_1D (s : State) : Host.Outcome State Fault Refusal :=
  .next (catAI false 0 s)

/-- `OP1_24`, `24`: AI8 (R213). -/
def execOp1_24 (s : State) : Host.Outcome State Fault Refusal :=
  .next (catAI8 0 s)

/-- `OP1_25`, `25`: AI (R214). -/
def execOp1_25 (s : State) : Host.Outcome State Fault Refusal :=
  .next (catAI false 0 s)

/-- `OP1_2C`, `2C`: AI8 (R213). -/
def execOp1_2C (s : State) : Host.Outcome State Fault Refusal :=
  .next (catAI8 0 s)

/-- `OP1_2D`, `2D`: AI (R214). -/
def execOp1_2D (s : State) : Host.Outcome State Fault Refusal :=
  .next (catAI false 0 s)

/-- `OP1_34`, `34`: AI8 (R213). -/
def execOp1_34 (s : State) : Host.Outcome State Fault Refusal :=
  .next (catAI8 0 s)

/-- `OP1_35`, `35`: AI (R214). -/
def execOp1_35 (s : State) : Host.Outcome State Fault Refusal :=
  .next (catAI false 0 s)

/-- `OP1_3C`, `3C`: AI8 (R213). -/
def execOp1_3C (s : State) : Host.Outcome State Fault Refusal :=
  .next (catAI8 0 s)

/-- `OP1_3D`, `3D`: AI (R214). -/
def execOp1_3D (s : State) : Host.Outcome State Fault Refusal :=
  .next (catAI false 0 s)

/-- `OP1_68`, `68`: AI (R214). -/
def execOp1_68 (s : State) : Host.Outcome State Fault Refusal :=
  .next (catAI false 0 s)

/-- `OP1_6A`, `6A`: AI8 (R213). -/
def execOp1_6A (s : State) : Host.Outcome State Fault Refusal :=
  .next (catAI8 0 s)

/-- `OP1_70_7F`, `70` to `7F`: AI8 (R213). -/
def execOp1_70_7F (_lo : BitVec 4) (s : State) : Host.Outcome State Fault Refusal :=
  .next (catAI8 0 s)

/-- `OP1_A8`, `A8`: AI8 (R213). -/
def execOp1_A8 (s : State) : Host.Outcome State Fault Refusal :=
  .next (catAI8 0 s)

/-- `OP1_A9`, `A9`: AI (R214). -/
def execOp1_A9 (s : State) : Host.Outcome State Fault Refusal :=
  .next (catAI false 0 s)

/-- `OP1_B0_B7`, `B0` to `B7`: AI8 (R213). -/
def execOp1_B0_B7 (_lo : BitVec 3) (s : State) : Host.Outcome State Fault Refusal :=
  .next (catAI8 0 s)

/-- `OP1_B8_BF`, `B8` to `BF`: AI, imm64 (R214). -/
def execOp1_B8_BF (_lo : BitVec 3) (s : State) : Host.Outcome State Fault Refusal :=
  .next (catAI true 0 s)

/-- `OP1_C2`, `C2`: I16 (R216). -/
def execOp1_C2 (s : State) : Host.Outcome State Fault Refusal :=
  .next (catI16 0 s)

/-- `OP1_C8`, `C8`: II (R217). -/
def execOp1_C8 (s : State) : Host.Outcome State Fault Refusal :=
  .next (catII 0 s)

/-- `OP1_CA`, `CA`: I16 (R216). -/
def execOp1_CA (s : State) : Host.Outcome State Fault Refusal :=
  .next (catI16 0 s)

/-- `OP1_CD`, `CD`: AI8 (R213). -/
def execOp1_CD (s : State) : Host.Outcome State Fault Refusal :=
  .next (catAI8 0 s)

/-- `OP1_E0_E3`, `E0` to `E3`: AI8 (R213). -/
def execOp1_E0_E3 (_lo : BitVec 2) (s : State) : Host.Outcome State Fault Refusal :=
  .next (catAI8 0 s)

/-- `OP1_E4_E7`, `E4` to `E7`: AI8 (R213). -/
def execOp1_E4_E7 (_lo : BitVec 2) (s : State) : Host.Outcome State Fault Refusal :=
  .next (catAI8 0 s)

/-- `OP1_E8_E9`, `E8` to `E9`: D (R215). -/
def execOp1_E8_E9 (_lo : BitVec 1) (s : State) : Host.Outcome State Fault Refusal :=
  .next (catD 0 s)

/-- `OP1_EB`, `EB`: AI8 (R213). -/
def execOp1_EB (s : State) : Host.Outcome State Fault Refusal :=
  .next (catAI8 0 s)

/-- `OP2_80_8F`, `0F 80` to `0F 8F`: D (R215). -/
def execOp2_80_8F (_lo : BitVec 4) (s : State) : Host.Outcome State Fault Refusal :=
  .next (catD 0 s)

end Sys2Proof.Machine
end

