-- ==== Sys2Proof/Machine/InvalidRows.lean ====
section
/-! DEFINITION. The rows of `T1` and `T2` whose category is `INV` (R205). -/

namespace Sys2Proof.Machine

/-- `OP1_06_07`, `06` to `07`: INV (R205). -/
def execOp1_06_07 (_lo : BitVec 1) (s : State) : Host.Outcome State Fault Refusal :=
  .next (catINV s)

/-- `OP1_0E`, `0E`: INV (R205). -/
def execOp1_0E (s : State) : Host.Outcome State Fault Refusal :=
  .next (catINV s)

/-- `OP1_16_17`, `16` to `17`: INV (R205). -/
def execOp1_16_17 (_lo : BitVec 1) (s : State) : Host.Outcome State Fault Refusal :=
  .next (catINV s)

/-- `OP1_1E_1F`, `1E` to `1F`: INV (R205). -/
def execOp1_1E_1F (_lo : BitVec 1) (s : State) : Host.Outcome State Fault Refusal :=
  .next (catINV s)

/-- `OP1_27`, `27`: INV (R205). -/
def execOp1_27 (s : State) : Host.Outcome State Fault Refusal :=
  .next (catINV s)

/-- `OP1_2F`, `2F`: INV (R205). -/
def execOp1_2F (s : State) : Host.Outcome State Fault Refusal :=
  .next (catINV s)

/-- `OP1_37`, `37`: INV (R205). -/
def execOp1_37 (s : State) : Host.Outcome State Fault Refusal :=
  .next (catINV s)

/-- `OP1_3F`, `3F`: INV (R205). -/
def execOp1_3F (s : State) : Host.Outcome State Fault Refusal :=
  .next (catINV s)

/-- `OP1_60_61`, `60` to `61`: INV (R205). -/
def execOp1_60_61 (_lo : BitVec 1) (s : State) : Host.Outcome State Fault Refusal :=
  .next (catINV s)

/-- `OP1_62`, `62`: INV (R205). -/
def execOp1_62 (s : State) : Host.Outcome State Fault Refusal :=
  .next (catINV s)

/-- `OP1_82`, `82`: INV (R205). -/
def execOp1_82 (s : State) : Host.Outcome State Fault Refusal :=
  .next (catINV s)

/-- `OP1_9A`, `9A`: INV (R205). -/
def execOp1_9A (s : State) : Host.Outcome State Fault Refusal :=
  .next (catINV s)

/-- `OP1_A0_A3`, `A0` to `A3`: INV (R205). -/
def execOp1_A0_A3 (_lo : BitVec 2) (s : State) : Host.Outcome State Fault Refusal :=
  .next (catINV s)

/-- `OP1_C4_C5`, `C4` to `C5`: INV (R205). -/
def execOp1_C4_C5 (_lo : BitVec 1) (s : State) : Host.Outcome State Fault Refusal :=
  .next (catINV s)

/-- `OP1_CE`, `CE`: INV (R205). -/
def execOp1_CE (s : State) : Host.Outcome State Fault Refusal :=
  .next (catINV s)

/-- `OP1_D4_D5`, `D4` to `D5`: INV (R205). -/
def execOp1_D4_D5 (_lo : BitVec 1) (s : State) : Host.Outcome State Fault Refusal :=
  .next (catINV s)

/-- `OP1_D6`, `D6`: INV (R205). -/
def execOp1_D6 (s : State) : Host.Outcome State Fault Refusal :=
  .next (catINV s)

/-- `OP1_EA`, `EA`: INV (R205). -/
def execOp1_EA (s : State) : Host.Outcome State Fault Refusal :=
  .next (catINV s)

/-- `OP2_04`, `0F 04`: INV (R205). -/
def execOp2_04 (s : State) : Host.Outcome State Fault Refusal :=
  .next (catINV s)

/-- `OP2_0A`, `0F 0A`: INV (R205). -/
def execOp2_0A (s : State) : Host.Outcome State Fault Refusal :=
  .next (catINV s)

/-- `OP2_0C`, `0F 0C`: INV (R205). -/
def execOp2_0C (s : State) : Host.Outcome State Fault Refusal :=
  .next (catINV s)

/-- `OP2_0E_0F`, `0F 0E` to `0F 0F`: INV (R205). -/
def execOp2_0E_0F (_lo : BitVec 1) (s : State) : Host.Outcome State Fault Refusal :=
  .next (catINV s)

/-- `OP2_24_27`, `0F 24` to `0F 27`: INV (R205). -/
def execOp2_24_27 (_lo : BitVec 2) (s : State) : Host.Outcome State Fault Refusal :=
  .next (catINV s)

/-- `OP2_36`, `0F 36`: INV (R205). -/
def execOp2_36 (s : State) : Host.Outcome State Fault Refusal :=
  .next (catINV s)

/-- `OP2_39`, `0F 39`: INV (R205). -/
def execOp2_39 (s : State) : Host.Outcome State Fault Refusal :=
  .next (catINV s)

/-- `OP2_3B`, `0F 3B`: INV (R205). -/
def execOp2_3B (s : State) : Host.Outcome State Fault Refusal :=
  .next (catINV s)

/-- `OP2_3C_3F`, `0F 3C` to `0F 3F`: INV (R205). -/
def execOp2_3C_3F (_lo : BitVec 2) (s : State) : Host.Outcome State Fault Refusal :=
  .next (catINV s)

/-- `OP2_7A_7B`, `0F 7A` to `0F 7B`: INV (R205). -/
def execOp2_7A_7B (_lo : BitVec 1) (s : State) : Host.Outcome State Fault Refusal :=
  .next (catINV s)

/-- `OP2_A6_A7`, `0F A6` to `0F A7`: INV (R205). -/
def execOp2_A6_A7 (_lo : BitVec 1) (s : State) : Host.Outcome State Fault Refusal :=
  .next (catINV s)

/-- `OP2_FF`, `0F FF`: INV (R205). -/
def execOp2_FF (s : State) : Host.Outcome State Fault Refusal :=
  .next (catINV s)

end Sys2Proof.Machine
end

