-- ==== Sys2Proof/Machine/ModRmImmRows.lean ====
section
/-! DEFINITION. The rows of `T1` and `T2` of categories `MI8` (R210), `MRI8` (R211) and `MI` (R212). -/

namespace Sys2Proof.Machine

/-- `OP1_69`, `69`: MI (R212). -/
def execOp1_69 (s : State) : Host.Outcome State Fault Refusal :=
  .next (catMI false 0 s)

/-- `OP1_6B`, `6B`: MI8 (R210). -/
def execOp1_6B (s : State) : Host.Outcome State Fault Refusal :=
  .next (catMI8 0 s)

/-- `OP1_80`, `80`: MI8 (R210). -/
def execOp1_80 (s : State) : Host.Outcome State Fault Refusal :=
  .next (catMI8 0 s)

/-- `OP1_81`, `81`: MI (R212). -/
def execOp1_81 (s : State) : Host.Outcome State Fault Refusal :=
  .next (catMI false 0 s)

/-- `OP1_83`, `83`: MI8 (R210). -/
def execOp1_83 (s : State) : Host.Outcome State Fault Refusal :=
  .next (catMI8 0 s)

/-- `OP1_C0_C1`, `C0` to `C1`: MI8 (R210). -/
def execOp1_C0_C1 (_lo : BitVec 1) (s : State) : Host.Outcome State Fault Refusal :=
  .next (catMI8 0 s)

/-- `OP1_C6`, `C6`: MI8 (R210). -/
def execOp1_C6 (s : State) : Host.Outcome State Fault Refusal :=
  .next (catMI8 0 s)

/-- `OP1_C7`, `C7`: MI (R212). -/
def execOp1_C7 (s : State) : Host.Outcome State Fault Refusal :=
  .next (catMI false 0 s)

/-- `OP2_70`, `0F 70`: MRI8 (R211). -/
def execOp2_70 (s : State) : Host.Outcome State Fault Refusal :=
  .next (catMRI8 0 s)

/-- `OP2_71`, `0F 71`: MI8 (R210). -/
def execOp2_71 (s : State) : Host.Outcome State Fault Refusal :=
  .next (catMI8 0 s)

/-- `OP2_72_73`, `0F 72` to `0F 73`: MI8 (R210). -/
def execOp2_72_73 (_lo : BitVec 1) (s : State) : Host.Outcome State Fault Refusal :=
  .next (catMI8 0 s)

/-- `OP2_A4`, `0F A4`: MRI8 (R211). -/
def execOp2_A4 (s : State) : Host.Outcome State Fault Refusal :=
  .next (catMRI8 0 s)

/-- `OP2_AC`, `0F AC`: MRI8 (R211). -/
def execOp2_AC (s : State) : Host.Outcome State Fault Refusal :=
  .next (catMRI8 0 s)

/-- `OP2_BA`, `0F BA`: MI8 (R210). -/
def execOp2_BA (s : State) : Host.Outcome State Fault Refusal :=
  .next (catMI8 0 s)

/-- `OP2_C2`, `0F C2`: MRI8 (R211). -/
def execOp2_C2 (s : State) : Host.Outcome State Fault Refusal :=
  .next (catMRI8 0 s)

/-- `OP2_C4_C5`, `0F C4` to `0F C5`: MRI8 (R211). -/
def execOp2_C4_C5 (_lo : BitVec 1) (s : State) : Host.Outcome State Fault Refusal :=
  .next (catMRI8 0 s)

/-- `OP2_C6`, `0F C6`: MRI8 (R211). -/
def execOp2_C6 (s : State) : Host.Outcome State Fault Refusal :=
  .next (catMRI8 0 s)

end Sys2Proof.Machine
end

