-- ==== Sys2Proof/Machine/ModRmRows.lean ====
section
/-! DEFINITION. The rows of `T1` and `T2` of categories `M` (R208) and `MR` (R209). -/

namespace Sys2Proof.Machine

/-- `OP1_00_03`, `00` to `03`: MR (R209). -/
def execOp1_00_03 (_lo : BitVec 2) (s : State) : Host.Outcome State Fault Refusal :=
  .next (catMR 0 s)

/-- `OP1_08_0B`, `08` to `0B`: MR (R209). -/
def execOp1_08_0B (_lo : BitVec 2) (s : State) : Host.Outcome State Fault Refusal :=
  .next (catMR 0 s)

/-- `OP1_10_13`, `10` to `13`: MR (R209). -/
def execOp1_10_13 (_lo : BitVec 2) (s : State) : Host.Outcome State Fault Refusal :=
  .next (catMR 0 s)

/-- `OP1_18_1B`, `18` to `1B`: MR (R209). -/
def execOp1_18_1B (_lo : BitVec 2) (s : State) : Host.Outcome State Fault Refusal :=
  .next (catMR 0 s)

/-- `OP1_20_23`, `20` to `23`: MR (R209). -/
def execOp1_20_23 (_lo : BitVec 2) (s : State) : Host.Outcome State Fault Refusal :=
  .next (catMR 0 s)

/-- `OP1_28_2B`, `28` to `2B`: MR (R209). -/
def execOp1_28_2B (_lo : BitVec 2) (s : State) : Host.Outcome State Fault Refusal :=
  .next (catMR 0 s)

/-- `OP1_30_33`, `30` to `33`: MR (R209). -/
def execOp1_30_33 (_lo : BitVec 2) (s : State) : Host.Outcome State Fault Refusal :=
  .next (catMR 0 s)

/-- `OP1_38_3B`, `38` to `3B`: MR (R209). -/
def execOp1_38_3B (_lo : BitVec 2) (s : State) : Host.Outcome State Fault Refusal :=
  .next (catMR 0 s)

/-- `OP1_63`, `63`: MR (R209). -/
def execOp1_63 (s : State) : Host.Outcome State Fault Refusal :=
  .next (catMR 0 s)

/-- `OP1_84_87`, `84` to `87`: MR (R209). -/
def execOp1_84_87 (_lo : BitVec 2) (s : State) : Host.Outcome State Fault Refusal :=
  .next (catMR 0 s)

/-- `OP1_88`, `88`: MR (R209). -/
def execOp1_88 (s : State) : Host.Outcome State Fault Refusal :=
  .next (catMR 0 s)

/-- `OP1_89`, `89`: MR (R209). -/
def execOp1_89 (s : State) : Host.Outcome State Fault Refusal :=
  .next (catMR 0 s)

/-- `OP1_8A_8B`, `8A` to `8B`: MR (R209). -/
def execOp1_8A_8B (_lo : BitVec 1) (s : State) : Host.Outcome State Fault Refusal :=
  .next (catMR 0 s)

/-- `OP1_8C_8D`, `8C` to `8D`: MR (R209). -/
def execOp1_8C_8D (_lo : BitVec 1) (s : State) : Host.Outcome State Fault Refusal :=
  .next (catMR 0 s)

/-- `OP1_8E`, `8E`: MR (R209). -/
def execOp1_8E (s : State) : Host.Outcome State Fault Refusal :=
  .next (catMR 0 s)

/-- `OP1_8F`, `8F`: M (R208). -/
def execOp1_8F (s : State) : Host.Outcome State Fault Refusal :=
  .next (catM 0 s)

/-- `OP1_D0_D3`, `D0` to `D3`: M (R208). -/
def execOp1_D0_D3 (_lo : BitVec 2) (s : State) : Host.Outcome State Fault Refusal :=
  .next (catM 0 s)

/-- `OP1_D8_DF`, `D8` to `DF`: M (R208). -/
def execOp1_D8_DF (_lo : BitVec 3) (s : State) : Host.Outcome State Fault Refusal :=
  .next (catM 0 s)

/-- `OP1_FE`, `FE`: M (R208). -/
def execOp1_FE (s : State) : Host.Outcome State Fault Refusal :=
  .next (catM 0 s)

/-- `OP1_FF`, `FF`: M (R208). -/
def execOp1_FF (s : State) : Host.Outcome State Fault Refusal :=
  .next (catM 0 s)

/-- `OP2_00`, `0F 00`: M (R208). -/
def execOp2_00 (s : State) : Host.Outcome State Fault Refusal :=
  .next (catM 0 s)

/-- `OP2_02_03`, `0F 02` to `0F 03`: MR (R209). -/
def execOp2_02_03 (_lo : BitVec 1) (s : State) : Host.Outcome State Fault Refusal :=
  .next (catMR 0 s)

/-- `OP2_0D`, `0F 0D`: M (R208). -/
def execOp2_0D (s : State) : Host.Outcome State Fault Refusal :=
  .next (catM 0 s)

/-- `OP2_10_17`, `0F 10` to `0F 17`: MR (R209). -/
def execOp2_10_17 (_lo : BitVec 3) (s : State) : Host.Outcome State Fault Refusal :=
  .next (catMR 0 s)

/-- `OP2_18_1B`, `0F 18` to `0F 1B`: M (R208). -/
def execOp2_18_1B (_lo : BitVec 2) (s : State) : Host.Outcome State Fault Refusal :=
  .next (catM 0 s)

/-- `OP2_1C_1D`, `0F 1C` to `0F 1D`: M (R208). -/
def execOp2_1C_1D (_lo : BitVec 1) (s : State) : Host.Outcome State Fault Refusal :=
  .next (catM 0 s)

/-- `OP2_1E`, `0F 1E`: M (R208). -/
def execOp2_1E (s : State) : Host.Outcome State Fault Refusal :=
  .next (catM 0 s)

/-- `OP2_1F`, `0F 1F`: M (R208). -/
def execOp2_1F (s : State) : Host.Outcome State Fault Refusal :=
  .next (catM 0 s)

/-- `OP2_20_23`, `0F 20` to `0F 23`: MR (R209). -/
def execOp2_20_23 (_lo : BitVec 2) (s : State) : Host.Outcome State Fault Refusal :=
  .next (catMR 0 s)

/-- `OP2_28_2F`, `0F 28` to `0F 2F`: MR (R209). -/
def execOp2_28_2F (_lo : BitVec 3) (s : State) : Host.Outcome State Fault Refusal :=
  .next (catMR 0 s)

/-- `OP2_40_4F`, `0F 40` to `0F 4F`: MR (R209). -/
def execOp2_40_4F (_lo : BitVec 4) (s : State) : Host.Outcome State Fault Refusal :=
  .next (catMR 0 s)

/-- `OP2_50_5F`, `0F 50` to `0F 5F`: MR (R209). -/
def execOp2_50_5F (_lo : BitVec 4) (s : State) : Host.Outcome State Fault Refusal :=
  .next (catMR 0 s)

/-- `OP2_60_6F`, `0F 60` to `0F 6F`: MR (R209). -/
def execOp2_60_6F (_lo : BitVec 4) (s : State) : Host.Outcome State Fault Refusal :=
  .next (catMR 0 s)

/-- `OP2_74_75`, `0F 74` to `0F 75`: MR (R209). -/
def execOp2_74_75 (_lo : BitVec 1) (s : State) : Host.Outcome State Fault Refusal :=
  .next (catMR 0 s)

/-- `OP2_76`, `0F 76`: MR (R209). -/
def execOp2_76 (s : State) : Host.Outcome State Fault Refusal :=
  .next (catMR 0 s)

/-- `OP2_78_79`, `0F 78` to `0F 79`: MR (R209). -/
def execOp2_78_79 (_lo : BitVec 1) (s : State) : Host.Outcome State Fault Refusal :=
  .next (catMR 0 s)

/-- `OP2_7C_7F`, `0F 7C` to `0F 7F`: MR (R209). -/
def execOp2_7C_7F (_lo : BitVec 2) (s : State) : Host.Outcome State Fault Refusal :=
  .next (catMR 0 s)

/-- `OP2_90_9F`, `0F 90` to `0F 9F`: M (R208). -/
def execOp2_90_9F (_lo : BitVec 4) (s : State) : Host.Outcome State Fault Refusal :=
  .next (catM 0 s)

/-- `OP2_A3`, `0F A3`: MR (R209). -/
def execOp2_A3 (s : State) : Host.Outcome State Fault Refusal :=
  .next (catMR 0 s)

/-- `OP2_A5`, `0F A5`: MR (R209). -/
def execOp2_A5 (s : State) : Host.Outcome State Fault Refusal :=
  .next (catMR 0 s)

/-- `OP2_AB`, `0F AB`: MR (R209). -/
def execOp2_AB (s : State) : Host.Outcome State Fault Refusal :=
  .next (catMR 0 s)

/-- `OP2_AD`, `0F AD`: MR (R209). -/
def execOp2_AD (s : State) : Host.Outcome State Fault Refusal :=
  .next (catMR 0 s)

/-- `OP2_AE`, `0F AE`: M (R208). -/
def execOp2_AE (s : State) : Host.Outcome State Fault Refusal :=
  .next (catM 0 s)

/-- `OP2_AF`, `0F AF`: MR (R209). -/
def execOp2_AF (s : State) : Host.Outcome State Fault Refusal :=
  .next (catMR 0 s)

/-- `OP2_B0_B7`, `0F B0` to `0F B7`: MR (R209). -/
def execOp2_B0_B7 (_lo : BitVec 3) (s : State) : Host.Outcome State Fault Refusal :=
  .next (catMR 0 s)

/-- `OP2_B8`, `0F B8`: MR (R209). -/
def execOp2_B8 (s : State) : Host.Outcome State Fault Refusal :=
  .next (catMR 0 s)

/-- `OP2_B9`, `0F B9`: M (R208). -/
def execOp2_B9 (s : State) : Host.Outcome State Fault Refusal :=
  .next (catM 0 s)

/-- `OP2_BB`, `0F BB`: MR (R209). -/
def execOp2_BB (s : State) : Host.Outcome State Fault Refusal :=
  .next (catMR 0 s)

/-- `OP2_BC_BF`, `0F BC` to `0F BF`: MR (R209). -/
def execOp2_BC_BF (_lo : BitVec 2) (s : State) : Host.Outcome State Fault Refusal :=
  .next (catMR 0 s)

/-- `OP2_C0_C1`, `0F C0` to `0F C1`: MR (R209). -/
def execOp2_C0_C1 (_lo : BitVec 1) (s : State) : Host.Outcome State Fault Refusal :=
  .next (catMR 0 s)

/-- `OP2_C3`, `0F C3`: MR (R209). -/
def execOp2_C3 (s : State) : Host.Outcome State Fault Refusal :=
  .next (catMR 0 s)

/-- `OP2_C7`, `0F C7`: M (R208). -/
def execOp2_C7 (s : State) : Host.Outcome State Fault Refusal :=
  .next (catM 0 s)

/-- `OP2_D0_DF`, `0F D0` to `0F DF`: MR (R209). -/
def execOp2_D0_DF (_lo : BitVec 4) (s : State) : Host.Outcome State Fault Refusal :=
  .next (catMR 0 s)

/-- `OP2_E0_EF`, `0F E0` to `0F EF`: MR (R209). -/
def execOp2_E0_EF (_lo : BitVec 4) (s : State) : Host.Outcome State Fault Refusal :=
  .next (catMR 0 s)

/-- `OP2_F0_F7`, `0F F0` to `0F F7`: MR (R209). -/
def execOp2_F0_F7 (_lo : BitVec 3) (s : State) : Host.Outcome State Fault Refusal :=
  .next (catMR 0 s)

/-- `OP2_F8_FB`, `0F F8` to `0F FB`: MR (R209). -/
def execOp2_F8_FB (_lo : BitVec 2) (s : State) : Host.Outcome State Fault Refusal :=
  .next (catMR 0 s)

/-- `OP2_FC_FD`, `0F FC` to `0F FD`: MR (R209). -/
def execOp2_FC_FD (_lo : BitVec 1) (s : State) : Host.Outcome State Fault Refusal :=
  .next (catMR 0 s)

/-- `OP2_FE`, `0F FE`: MR (R209). -/
def execOp2_FE (s : State) : Host.Outcome State Fault Refusal :=
  .next (catMR 0 s)

end Sys2Proof.Machine
end

