-- ==== Sys2Proof/Machine/NoOperandRows.lean ====
section
/-! DEFINITION. The rows of `T1` and `T2` of categories `NP` (R206) and `O` (R207). -/

namespace Sys2Proof.Machine

/-- `OP1_50_57`, `50` to `57`: O (R207). -/
def execOp1_50_57 (_lo : BitVec 3) (s : State) : Host.Outcome State Fault Refusal :=
  .next (catO 0 s)

/-- `OP1_58_5F`, `58` to `5F`: O (R207). -/
def execOp1_58_5F (_lo : BitVec 3) (s : State) : Host.Outcome State Fault Refusal :=
  .next (catO 0 s)

/-- `OP1_6C_6F`, `6C` to `6F`: NP (R206). -/
def execOp1_6C_6F (_lo : BitVec 2) (s : State) : Host.Outcome State Fault Refusal :=
  .next (catNP 0 s)

/-- `OP1_90`, `90`: NP (R206). -/
def execOp1_90 (s : State) : Host.Outcome State Fault Refusal :=
  .next (catNP 0 s)

/-- `OP1_91`, `91`: O (R207). -/
def execOp1_91 (s : State) : Host.Outcome State Fault Refusal :=
  .next (catO 0 s)

/-- `OP1_92_93`, `92` to `93`: O (R207). -/
def execOp1_92_93 (_lo : BitVec 1) (s : State) : Host.Outcome State Fault Refusal :=
  .next (catO 0 s)

/-- `OP1_94_97`, `94` to `97`: O (R207). -/
def execOp1_94_97 (_lo : BitVec 2) (s : State) : Host.Outcome State Fault Refusal :=
  .next (catO 0 s)

/-- `OP1_98_99`, `98` to `99`: NP (R206). -/
def execOp1_98_99 (_lo : BitVec 1) (s : State) : Host.Outcome State Fault Refusal :=
  .next (catNP 0 s)

/-- `OP1_9B`, `9B`: NP (R206). -/
def execOp1_9B (s : State) : Host.Outcome State Fault Refusal :=
  .next (catNP 0 s)

/-- `OP1_9C_9F`, `9C` to `9F`: NP (R206). -/
def execOp1_9C_9F (_lo : BitVec 2) (s : State) : Host.Outcome State Fault Refusal :=
  .next (catNP 0 s)

/-- `OP1_A4_A7`, `A4` to `A7`: NP (R206). -/
def execOp1_A4_A7 (_lo : BitVec 2) (s : State) : Host.Outcome State Fault Refusal :=
  .next (catNP 0 s)

/-- `OP1_AA_AB`, `AA` to `AB`: NP (R206). -/
def execOp1_AA_AB (_lo : BitVec 1) (s : State) : Host.Outcome State Fault Refusal :=
  .next (catNP 0 s)

/-- `OP1_AC_AF`, `AC` to `AF`: NP (R206). -/
def execOp1_AC_AF (_lo : BitVec 2) (s : State) : Host.Outcome State Fault Refusal :=
  .next (catNP 0 s)

/-- `OP1_C3`, `C3`: NP (R206). -/
def execOp1_C3 (s : State) : Host.Outcome State Fault Refusal :=
  .next (catNP 0 s)

/-- `OP1_C9`, `C9`: NP (R206). -/
def execOp1_C9 (s : State) : Host.Outcome State Fault Refusal :=
  .next (catNP 0 s)

/-- `OP1_CB`, `CB`: NP (R206). -/
def execOp1_CB (s : State) : Host.Outcome State Fault Refusal :=
  .next (catNP 0 s)

/-- `OP1_CC`, `CC`: NP (R206). -/
def execOp1_CC (s : State) : Host.Outcome State Fault Refusal :=
  .next (catNP 0 s)

/-- `OP1_CF`, `CF`: NP (R206). -/
def execOp1_CF (s : State) : Host.Outcome State Fault Refusal :=
  .next (catNP 0 s)

/-- `OP1_D7`, `D7`: NP (R206). -/
def execOp1_D7 (s : State) : Host.Outcome State Fault Refusal :=
  .next (catNP 0 s)

/-- `OP1_EC_EF`, `EC` to `EF`: NP (R206). -/
def execOp1_EC_EF (_lo : BitVec 2) (s : State) : Host.Outcome State Fault Refusal :=
  .next (catNP 0 s)

/-- `OP1_F1`, `F1`: NP (R206). -/
def execOp1_F1 (s : State) : Host.Outcome State Fault Refusal :=
  .next (catNP 0 s)

/-- `OP1_F4_F5`, `F4` to `F5`: NP (R206). -/
def execOp1_F4_F5 (_lo : BitVec 1) (s : State) : Host.Outcome State Fault Refusal :=
  .next (catNP 0 s)

/-- `OP1_F8_FB`, `F8` to `FB`: NP (R206). -/
def execOp1_F8_FB (_lo : BitVec 2) (s : State) : Host.Outcome State Fault Refusal :=
  .next (catNP 0 s)

/-- `OP1_FC_FD`, `FC` to `FD`: NP (R206). -/
def execOp1_FC_FD (_lo : BitVec 1) (s : State) : Host.Outcome State Fault Refusal :=
  .next (catNP 0 s)

/-- `OP2_05`, `0F 05`: NP (R206). -/
def execOp2_05 (s : State) : Host.Outcome State Fault Refusal :=
  .next (catNP 0 s)

/-- `OP2_06_07`, `0F 06` to `0F 07`: NP (R206). -/
def execOp2_06_07 (_lo : BitVec 1) (s : State) : Host.Outcome State Fault Refusal :=
  .next (catNP 0 s)

/-- `OP2_08_09`, `0F 08` to `0F 09`: NP (R206). -/
def execOp2_08_09 (_lo : BitVec 1) (s : State) : Host.Outcome State Fault Refusal :=
  .next (catNP 0 s)

/-- `OP2_0B`, `0F 0B`: NP (R206). -/
def execOp2_0B (s : State) : Host.Outcome State Fault Refusal :=
  .next (catNP 0 s)

/-- `OP2_30_33`, `0F 30` to `0F 33`: NP (R206). -/
def execOp2_30_33 (_lo : BitVec 2) (s : State) : Host.Outcome State Fault Refusal :=
  .next (catNP 0 s)

/-- `OP2_34_35`, `0F 34` to `0F 35`: NP (R206). -/
def execOp2_34_35 (_lo : BitVec 1) (s : State) : Host.Outcome State Fault Refusal :=
  .next (catNP 0 s)

/-- `OP2_37`, `0F 37`: NP (R206). -/
def execOp2_37 (s : State) : Host.Outcome State Fault Refusal :=
  .next (catNP 0 s)

/-- `OP2_77`, `0F 77`: NP (R206). -/
def execOp2_77 (s : State) : Host.Outcome State Fault Refusal :=
  .next (catNP 0 s)

/-- `OP2_A0_A1`, `0F A0` to `0F A1`: NP (R206). -/
def execOp2_A0_A1 (_lo : BitVec 1) (s : State) : Host.Outcome State Fault Refusal :=
  .next (catNP 0 s)

/-- `OP2_A2`, `0F A2`: NP (R206). -/
def execOp2_A2 (s : State) : Host.Outcome State Fault Refusal :=
  .next (catNP 0 s)

/-- `OP2_A8_A9`, `0F A8` to `0F A9`: NP (R206). -/
def execOp2_A8_A9 (_lo : BitVec 1) (s : State) : Host.Outcome State Fault Refusal :=
  .next (catNP 0 s)

/-- `OP2_AA`, `0F AA`: NP (R206). -/
def execOp2_AA (s : State) : Host.Outcome State Fault Refusal :=
  .next (catNP 0 s)

/-- `OP2_C8_CF`, `0F C8` to `0F CF`: O (R207). -/
def execOp2_C8_CF (_lo : BitVec 3) (s : State) : Host.Outcome State Fault Refusal :=
  .next (catO 0 s)

end Sys2Proof.Machine
end

