-- ==== Sys2Proof/Machine/PrefixRows.lean ====
section
/-! DEFINITION. The prefix classes: the rows of `T1` tagged `PFX` (R194 to R198). -/

namespace Sys2Proof.Machine

/-- `OP1_0F`, `0F`: PFX (R194). -/
def execOp1_0F (s : State) : Host.Outcome State Fault Refusal :=
  .next (consumeByte (fun x => x.setEsc) .opcodePhase s)

/-- `OP1_26`, `26`: PFX (R198). -/
def execOp1_26 (s : State) : Host.Outcome State Fault Refusal :=
  .next (consumeByte (fun x => x) .prefixPhase s)

/-- `OP1_2E`, `2E`: PFX (R198). -/
def execOp1_2E (s : State) : Host.Outcome State Fault Refusal :=
  .next (consumeByte (fun x => x) .prefixPhase s)

/-- `OP1_36`, `36`: PFX (R198). -/
def execOp1_36 (s : State) : Host.Outcome State Fault Refusal :=
  .next (consumeByte (fun x => x) .prefixPhase s)

/-- `OP1_3E`, `3E`: PFX (R198). -/
def execOp1_3E (s : State) : Host.Outcome State Fault Refusal :=
  .next (consumeByte (fun x => x) .prefixPhase s)

/-- `OP1_40_47`, `40` to `47`: PFX (R198). -/
def execOp1_40_47 (_lo : BitVec 3) (s : State) : Host.Outcome State Fault Refusal :=
  .next (consumeByte (fun x => x) .prefixPhase s)

/-- `OP1_48_4F`, `48` to `4F`: PFX (R197). -/
def execOp1_48_4F (_lo : BitVec 3) (s : State) : Host.Outcome State Fault Refusal :=
  .next (consumeByte (fun x => x.setRexw) .prefixPhase s)

/-- `OP1_64_65`, `64` to `65`: PFX (R198). -/
def execOp1_64_65 (_lo : BitVec 1) (s : State) : Host.Outcome State Fault Refusal :=
  .next (consumeByte (fun x => x) .prefixPhase s)

/-- `OP1_66`, `66`: PFX (R195). -/
def execOp1_66 (s : State) : Host.Outcome State Fault Refusal :=
  .next (consumeByte (fun x => x.setOp16) .prefixPhase s)

/-- `OP1_67`, `67`: PFX (R196). -/
def execOp1_67 (s : State) : Host.Outcome State Fault Refusal :=
  .next (consumeByte (fun x => x.setAddr16) .prefixPhase s)

/-- `OP1_F0`, `F0`: PFX (R198). -/
def execOp1_F0 (s : State) : Host.Outcome State Fault Refusal :=
  .next (consumeByte (fun x => x) .prefixPhase s)

/-- `OP1_F2_F3`, `F2` to `F3`: PFX (R198). -/
def execOp1_F2_F3 (_lo : BitVec 1) (s : State) : Host.Outcome State Fault Refusal :=
  .next (consumeByte (fun x => x) .prefixPhase s)

end Sys2Proof.Machine
end

