-- ==== Sys2Proof/Machine/SpecialRows.lean ====
section
/-! DEFINITION. The rows of the special-case resolver (R170 to R179): the five `multi` entries, the `reg`-dependent rows of `F6`
and `F7`, and the whitelist rows of `0F 01`, `0F 38` and `0F 3A`. -/

namespace Sys2Proof.Machine

/-- `OP1_F6`, `F6`: SPECIAL (R175). -/
def execOp1_F6 (s : State) : Host.Outcome State Fault Refusal :=
  .next (enterResolver s)

/-- `OP1_F7`, `F7`: SPECIAL (R176). -/
def execOp1_F7 (s : State) : Host.Outcome State Fault Refusal :=
  .next (enterResolver s)

/-- `OP1_F6_r0`, `F6` with ModRM `reg = 0`: MI8 (R175). -/
def execOp1_F6_r0 (_mod : BitVec 2) (_rm : BitVec 3) (s : State) : Host.Outcome State Fault Refusal :=
  .next (catMI8 0 s)

/-- `OP1_F6_r1`, `F6` with ModRM `reg = 1`: MI8 (R175). -/
def execOp1_F6_r1 (_mod : BitVec 2) (_rm : BitVec 3) (s : State) : Host.Outcome State Fault Refusal :=
  .next (catMI8 0 s)

/-- `OP1_F6_r2`, `F6` with ModRM `reg = 2`: M (R175). -/
def execOp1_F6_r2 (_mod : BitVec 2) (_rm : BitVec 3) (s : State) : Host.Outcome State Fault Refusal :=
  .next (catM 0 s)

/-- `OP1_F6_r3`, `F6` with ModRM `reg = 3`: M (R175). -/
def execOp1_F6_r3 (_mod : BitVec 2) (_rm : BitVec 3) (s : State) : Host.Outcome State Fault Refusal :=
  .next (catM 0 s)

/-- `OP1_F6_r4`, `F6` with ModRM `reg = 4`: M (R175). -/
def execOp1_F6_r4 (_mod : BitVec 2) (_rm : BitVec 3) (s : State) : Host.Outcome State Fault Refusal :=
  .next (catM 0 s)

/-- `OP1_F6_r5`, `F6` with ModRM `reg = 5`: M (R175). -/
def execOp1_F6_r5 (_mod : BitVec 2) (_rm : BitVec 3) (s : State) : Host.Outcome State Fault Refusal :=
  .next (catM 0 s)

/-- `OP1_F6_r6`, `F6` with ModRM `reg = 6`: M (R175). -/
def execOp1_F6_r6 (_mod : BitVec 2) (_rm : BitVec 3) (s : State) : Host.Outcome State Fault Refusal :=
  .next (catM 0 s)

/-- `OP1_F6_r7`, `F6` with ModRM `reg = 7`: M (R175). -/
def execOp1_F6_r7 (_mod : BitVec 2) (_rm : BitVec 3) (s : State) : Host.Outcome State Fault Refusal :=
  .next (catM 0 s)

/-- `OP1_F7_r0`, `F7` with ModRM `reg = 0`: MI (R176). -/
def execOp1_F7_r0 (_mod : BitVec 2) (_rm : BitVec 3) (s : State) : Host.Outcome State Fault Refusal :=
  .next (underArmF7 (fun s => catMI false 0 s) s)

/-- `OP1_F7_r1`, `F7` with ModRM `reg = 1`: MI (R176). -/
def execOp1_F7_r1 (_mod : BitVec 2) (_rm : BitVec 3) (s : State) : Host.Outcome State Fault Refusal :=
  .next (underArmF7 (fun s => catMI false 0 s) s)

/-- `OP1_F7_r2`, `F7` with ModRM `reg = 2`: M (R176). -/
def execOp1_F7_r2 (_mod : BitVec 2) (_rm : BitVec 3) (s : State) : Host.Outcome State Fault Refusal :=
  .next (underArmF7 (fun s => catM 0 s) s)

/-- `OP1_F7_r3`, `F7` with ModRM `reg = 3`: M (R176). -/
def execOp1_F7_r3 (_mod : BitVec 2) (_rm : BitVec 3) (s : State) : Host.Outcome State Fault Refusal :=
  .next (underArmF7 (fun s => catM 0 s) s)

/-- `OP1_F7_r4`, `F7` with ModRM `reg = 4`: M (R176). -/
def execOp1_F7_r4 (_mod : BitVec 2) (_rm : BitVec 3) (s : State) : Host.Outcome State Fault Refusal :=
  .next (underArmF7 (fun s => catM 0 s) s)

/-- `OP1_F7_r5`, `F7` with ModRM `reg = 5`: M (R176). -/
def execOp1_F7_r5 (_mod : BitVec 2) (_rm : BitVec 3) (s : State) : Host.Outcome State Fault Refusal :=
  .next (underArmF7 (fun s => catM 0 s) s)

/-- `OP1_F7_r6`, `F7` with ModRM `reg = 6`: M (R176). -/
def execOp1_F7_r6 (_mod : BitVec 2) (_rm : BitVec 3) (s : State) : Host.Outcome State Fault Refusal :=
  .next (underArmF7 (fun s => catM 0 s) s)

/-- `OP1_F7_r7`, `F7` with ModRM `reg = 7`: M (R176). -/
def execOp1_F7_r7 (_mod : BitVec 2) (_rm : BitVec 3) (s : State) : Host.Outcome State Fault Refusal :=
  .next (underArmF7 (fun s => catM 0 s) s)

/-- `OP2_01_inW01`, `0F 01 op2`, `op2` in W01: M, extra 1 (R172). -/
def execOp2_01_inW01 (_op2 : Byte) (s : State) : Host.Outcome State Fault Refusal :=
  .next (catM 1 s)

/-- `OP2_01_other`, `0F 01 op2`, `op2` in complement of W01: INV (R172). -/
def execOp2_01_other (_op2 : Byte) (s : State) : Host.Outcome State Fault Refusal :=
  .next (unlisted s)

/-- `OP2_38_other`, `0F 38 op2`, `op2` in complement of W38: INV (R173). -/
def execOp2_38_other (_op2 : Byte) (s : State) : Host.Outcome State Fault Refusal :=
  .next (unlisted s)

/-- `OP2_3A_inW3A_NI`, `0F 3A op2`, `op2` in W3A_NI: MR, extra 1 (R174). -/
def execOp2_3A_inW3A_NI (_op2 : Byte) (s : State) : Host.Outcome State Fault Refusal :=
  .next (catMR 1 s)

/-- `OP2_3A_other`, `0F 3A op2`, `op2` in complement of W3A_I8 and W3A_NI: INV (R174). -/
def execOp2_3A_other (_op2 : Byte) (s : State) : Host.Outcome State Fault Refusal :=
  .next (unlisted s)

/-- `OP2_01`, `0F 01`: SPECIAL (R172). -/
def execOp2_01 (s : State) : Host.Outcome State Fault Refusal :=
  .next (enterResolver s)

/-- `OP2_38`, `0F 38`: SPECIAL (R173). -/
def execOp2_38 (s : State) : Host.Outcome State Fault Refusal :=
  .next (enterResolver s)

/-- `OP2_3A`, `0F 3A`: SPECIAL (R174). -/
def execOp2_3A (s : State) : Host.Outcome State Fault Refusal :=
  .next (enterResolver s)

/-- `OP2_38_00`, `0F 38 00`: MR, extra 1 (R173). -/
def execOp2_38_00 (s : State) : Host.Outcome State Fault Refusal :=
  .next (catMR 1 s)

/-- `OP2_38_01`, `0F 38 01`: MR, extra 1 (R173). -/
def execOp2_38_01 (s : State) : Host.Outcome State Fault Refusal :=
  .next (catMR 1 s)

/-- `OP2_38_02`, `0F 38 02`: MR, extra 1 (R173). -/
def execOp2_38_02 (s : State) : Host.Outcome State Fault Refusal :=
  .next (catMR 1 s)

/-- `OP2_38_03`, `0F 38 03`: MR, extra 1 (R173). -/
def execOp2_38_03 (s : State) : Host.Outcome State Fault Refusal :=
  .next (catMR 1 s)

/-- `OP2_38_04`, `0F 38 04`: MR, extra 1 (R173). -/
def execOp2_38_04 (s : State) : Host.Outcome State Fault Refusal :=
  .next (catMR 1 s)

/-- `OP2_38_05`, `0F 38 05`: MR, extra 1 (R173). -/
def execOp2_38_05 (s : State) : Host.Outcome State Fault Refusal :=
  .next (catMR 1 s)

/-- `OP2_38_06`, `0F 38 06`: MR, extra 1 (R173). -/
def execOp2_38_06 (s : State) : Host.Outcome State Fault Refusal :=
  .next (catMR 1 s)

/-- `OP2_38_07`, `0F 38 07`: MR, extra 1 (R173). -/
def execOp2_38_07 (s : State) : Host.Outcome State Fault Refusal :=
  .next (catMR 1 s)

/-- `OP2_38_08`, `0F 38 08`: MR, extra 1 (R173). -/
def execOp2_38_08 (s : State) : Host.Outcome State Fault Refusal :=
  .next (catMR 1 s)

/-- `OP2_38_09`, `0F 38 09`: MR, extra 1 (R173). -/
def execOp2_38_09 (s : State) : Host.Outcome State Fault Refusal :=
  .next (catMR 1 s)

/-- `OP2_38_0A`, `0F 38 0A`: MR, extra 1 (R173). -/
def execOp2_38_0A (s : State) : Host.Outcome State Fault Refusal :=
  .next (catMR 1 s)

/-- `OP2_38_0B`, `0F 38 0B`: MR, extra 1 (R173). -/
def execOp2_38_0B (s : State) : Host.Outcome State Fault Refusal :=
  .next (catMR 1 s)

/-- `OP2_3A_08`, `0F 3A 08`: MRI8, extra 1 (R174). -/
def execOp2_3A_08 (s : State) : Host.Outcome State Fault Refusal :=
  .next (catMRI8 1 s)

/-- `OP2_3A_09`, `0F 3A 09`: MRI8, extra 1 (R174). -/
def execOp2_3A_09 (s : State) : Host.Outcome State Fault Refusal :=
  .next (catMRI8 1 s)

/-- `OP2_3A_0A`, `0F 3A 0A`: MRI8, extra 1 (R174). -/
def execOp2_3A_0A (s : State) : Host.Outcome State Fault Refusal :=
  .next (catMRI8 1 s)

/-- `OP2_3A_0B`, `0F 3A 0B`: MRI8, extra 1 (R174). -/
def execOp2_3A_0B (s : State) : Host.Outcome State Fault Refusal :=
  .next (catMRI8 1 s)

/-- `OP2_3A_0C`, `0F 3A 0C`: MRI8, extra 1 (R174). -/
def execOp2_3A_0C (s : State) : Host.Outcome State Fault Refusal :=
  .next (catMRI8 1 s)

/-- `OP2_3A_0D`, `0F 3A 0D`: MRI8, extra 1 (R174). -/
def execOp2_3A_0D (s : State) : Host.Outcome State Fault Refusal :=
  .next (catMRI8 1 s)

/-- `OP2_3A_0E`, `0F 3A 0E`: MRI8, extra 1 (R174). -/
def execOp2_3A_0E (s : State) : Host.Outcome State Fault Refusal :=
  .next (catMRI8 1 s)

/-- `OP2_3A_0F`, `0F 3A 0F`: MRI8, extra 1 (R174). -/
def execOp2_3A_0F (s : State) : Host.Outcome State Fault Refusal :=
  .next (catMRI8 1 s)

/-- `OP2_3A_14`, `0F 3A 14`: MRI8, extra 1 (R174). -/
def execOp2_3A_14 (s : State) : Host.Outcome State Fault Refusal :=
  .next (catMRI8 1 s)

/-- `OP2_3A_15`, `0F 3A 15`: MRI8, extra 1 (R174). -/
def execOp2_3A_15 (s : State) : Host.Outcome State Fault Refusal :=
  .next (catMRI8 1 s)

/-- `OP2_3A_16`, `0F 3A 16`: MRI8, extra 1 (R174). -/
def execOp2_3A_16 (s : State) : Host.Outcome State Fault Refusal :=
  .next (catMRI8 1 s)

/-- `OP2_3A_17`, `0F 3A 17`: MRI8, extra 1 (R174). -/
def execOp2_3A_17 (s : State) : Host.Outcome State Fault Refusal :=
  .next (catMRI8 1 s)

/-- `OP2_3A_20`, `0F 3A 20`: MRI8, extra 1 (R174). -/
def execOp2_3A_20 (s : State) : Host.Outcome State Fault Refusal :=
  .next (catMRI8 1 s)

/-- `OP2_3A_21`, `0F 3A 21`: MRI8, extra 1 (R174). -/
def execOp2_3A_21 (s : State) : Host.Outcome State Fault Refusal :=
  .next (catMRI8 1 s)

/-- `OP2_3A_22`, `0F 3A 22`: MRI8, extra 1 (R174). -/
def execOp2_3A_22 (s : State) : Host.Outcome State Fault Refusal :=
  .next (catMRI8 1 s)

/-- `OP2_3A_40`, `0F 3A 40`: MRI8, extra 1 (R174). -/
def execOp2_3A_40 (s : State) : Host.Outcome State Fault Refusal :=
  .next (catMRI8 1 s)

/-- `OP2_3A_41`, `0F 3A 41`: MRI8, extra 1 (R174). -/
def execOp2_3A_41 (s : State) : Host.Outcome State Fault Refusal :=
  .next (catMRI8 1 s)

/-- `OP2_3A_42`, `0F 3A 42`: MRI8, extra 1 (R174). -/
def execOp2_3A_42 (s : State) : Host.Outcome State Fault Refusal :=
  .next (catMRI8 1 s)

/-- `OP2_3A_44`, `0F 3A 44`: MRI8, extra 1 (R174). -/
def execOp2_3A_44 (s : State) : Host.Outcome State Fault Refusal :=
  .next (catMRI8 1 s)

/-- `OP2_3A_60`, `0F 3A 60`: MRI8, extra 1 (R174). -/
def execOp2_3A_60 (s : State) : Host.Outcome State Fault Refusal :=
  .next (catMRI8 1 s)

/-- `OP2_3A_61`, `0F 3A 61`: MRI8, extra 1 (R174). -/
def execOp2_3A_61 (s : State) : Host.Outcome State Fault Refusal :=
  .next (catMRI8 1 s)

/-- `OP2_3A_62`, `0F 3A 62`: MRI8, extra 1 (R174). -/
def execOp2_3A_62 (s : State) : Host.Outcome State Fault Refusal :=
  .next (catMRI8 1 s)

/-- `OP2_3A_63`, `0F 3A 63`: MRI8, extra 1 (R174). -/
def execOp2_3A_63 (s : State) : Host.Outcome State Fault Refusal :=
  .next (catMRI8 1 s)

/-- `OP2_3A_DF`, `0F 3A DF`: MRI8, extra 1 (R174). -/
def execOp2_3A_DF (s : State) : Host.Outcome State Fault Refusal :=
  .next (catMRI8 1 s)

end Sys2Proof.Machine
end

