-- ==== Sys2Proof/Machine/Dispatch.lean ====
section
/-! DEFINITION. The dispatch: one arm per row of the opcode table. -/

namespace Sys2Proof.Machine

def exec (i : Instr) (s : State) : Host.Outcome State Fault Refusal :=
  match i with
  | .op1_00_03 lo => Sys2Proof.Machine.execOp1_00_03 lo s
  | .op1_04 => Sys2Proof.Machine.execOp1_04 s
  | .op1_05 => Sys2Proof.Machine.execOp1_05 s
  | .op1_06_07 lo => Sys2Proof.Machine.execOp1_06_07 lo s
  | .op1_08_0B lo => Sys2Proof.Machine.execOp1_08_0B lo s
  | .op1_0C => Sys2Proof.Machine.execOp1_0C s
  | .op1_0D => Sys2Proof.Machine.execOp1_0D s
  | .op1_0E => Sys2Proof.Machine.execOp1_0E s
  | .op1_0F => Sys2Proof.Machine.execOp1_0F s
  | .op1_10_13 lo => Sys2Proof.Machine.execOp1_10_13 lo s
  | .op1_14 => Sys2Proof.Machine.execOp1_14 s
  | .op1_15 => Sys2Proof.Machine.execOp1_15 s
  | .op1_16_17 lo => Sys2Proof.Machine.execOp1_16_17 lo s
  | .op1_18_1B lo => Sys2Proof.Machine.execOp1_18_1B lo s
  | .op1_1C => Sys2Proof.Machine.execOp1_1C s
  | .op1_1D => Sys2Proof.Machine.execOp1_1D s
  | .op1_1E_1F lo => Sys2Proof.Machine.execOp1_1E_1F lo s
  | .op1_20_23 lo => Sys2Proof.Machine.execOp1_20_23 lo s
  | .op1_24 => Sys2Proof.Machine.execOp1_24 s
  | .op1_25 => Sys2Proof.Machine.execOp1_25 s
  | .op1_26 => Sys2Proof.Machine.execOp1_26 s
  | .op1_27 => Sys2Proof.Machine.execOp1_27 s
  | .op1_28_2B lo => Sys2Proof.Machine.execOp1_28_2B lo s
  | .op1_2C => Sys2Proof.Machine.execOp1_2C s
  | .op1_2D => Sys2Proof.Machine.execOp1_2D s
  | .op1_2E => Sys2Proof.Machine.execOp1_2E s
  | .op1_2F => Sys2Proof.Machine.execOp1_2F s
  | .op1_30_33 lo => Sys2Proof.Machine.execOp1_30_33 lo s
  | .op1_34 => Sys2Proof.Machine.execOp1_34 s
  | .op1_35 => Sys2Proof.Machine.execOp1_35 s
  | .op1_36 => Sys2Proof.Machine.execOp1_36 s
  | .op1_37 => Sys2Proof.Machine.execOp1_37 s
  | .op1_38_3B lo => Sys2Proof.Machine.execOp1_38_3B lo s
  | .op1_3C => Sys2Proof.Machine.execOp1_3C s
  | .op1_3D => Sys2Proof.Machine.execOp1_3D s
  | .op1_3E => Sys2Proof.Machine.execOp1_3E s
  | .op1_3F => Sys2Proof.Machine.execOp1_3F s
  | .op1_40_47 lo => Sys2Proof.Machine.execOp1_40_47 lo s
  | .op1_48_4F lo => Sys2Proof.Machine.execOp1_48_4F lo s
  | .op1_50_57 lo => Sys2Proof.Machine.execOp1_50_57 lo s
  | .op1_58_5F lo => Sys2Proof.Machine.execOp1_58_5F lo s
  | .op1_60_61 lo => Sys2Proof.Machine.execOp1_60_61 lo s
  | .op1_62 => Sys2Proof.Machine.execOp1_62 s
  | .op1_63 => Sys2Proof.Machine.execOp1_63 s
  | .op1_64_65 lo => Sys2Proof.Machine.execOp1_64_65 lo s
  | .op1_66 => Sys2Proof.Machine.execOp1_66 s
  | .op1_67 => Sys2Proof.Machine.execOp1_67 s
  | .op1_68 => Sys2Proof.Machine.execOp1_68 s
  | .op1_69 => Sys2Proof.Machine.execOp1_69 s
  | .op1_6A => Sys2Proof.Machine.execOp1_6A s
  | .op1_6B => Sys2Proof.Machine.execOp1_6B s
  | .op1_6C_6F lo => Sys2Proof.Machine.execOp1_6C_6F lo s
  | .op1_70_7F lo => Sys2Proof.Machine.execOp1_70_7F lo s
  | .op1_80 => Sys2Proof.Machine.execOp1_80 s
  | .op1_81 => Sys2Proof.Machine.execOp1_81 s
  | .op1_82 => Sys2Proof.Machine.execOp1_82 s
  | .op1_83 => Sys2Proof.Machine.execOp1_83 s
  | .op1_84_87 lo => Sys2Proof.Machine.execOp1_84_87 lo s
  | .op1_88 => Sys2Proof.Machine.execOp1_88 s
  | .op1_89 => Sys2Proof.Machine.execOp1_89 s
  | .op1_8A_8B lo => Sys2Proof.Machine.execOp1_8A_8B lo s
  | .op1_8C_8D lo => Sys2Proof.Machine.execOp1_8C_8D lo s
  | .op1_8E => Sys2Proof.Machine.execOp1_8E s
  | .op1_8F => Sys2Proof.Machine.execOp1_8F s
  | .op1_90 => Sys2Proof.Machine.execOp1_90 s
  | .op1_91 => Sys2Proof.Machine.execOp1_91 s
  | .op1_92_93 lo => Sys2Proof.Machine.execOp1_92_93 lo s
  | .op1_94_97 lo => Sys2Proof.Machine.execOp1_94_97 lo s
  | .op1_98_99 lo => Sys2Proof.Machine.execOp1_98_99 lo s
  | .op1_9A => Sys2Proof.Machine.execOp1_9A s
  | .op1_9B => Sys2Proof.Machine.execOp1_9B s
  | .op1_9C_9F lo => Sys2Proof.Machine.execOp1_9C_9F lo s
  | .op1_A0_A3 lo => Sys2Proof.Machine.execOp1_A0_A3 lo s
  | .op1_A4_A7 lo => Sys2Proof.Machine.execOp1_A4_A7 lo s
  | .op1_A8 => Sys2Proof.Machine.execOp1_A8 s
  | .op1_A9 => Sys2Proof.Machine.execOp1_A9 s
  | .op1_AA_AB lo => Sys2Proof.Machine.execOp1_AA_AB lo s
  | .op1_AC_AF lo => Sys2Proof.Machine.execOp1_AC_AF lo s
  | .op1_B0_B7 lo => Sys2Proof.Machine.execOp1_B0_B7 lo s
  | .op1_B8_BF lo => Sys2Proof.Machine.execOp1_B8_BF lo s
  | .op1_C0_C1 lo => Sys2Proof.Machine.execOp1_C0_C1 lo s
  | .op1_C2 => Sys2Proof.Machine.execOp1_C2 s
  | .op1_C3 => Sys2Proof.Machine.execOp1_C3 s
  | .op1_C4_C5 lo => Sys2Proof.Machine.execOp1_C4_C5 lo s
  | .op1_C6 => Sys2Proof.Machine.execOp1_C6 s
  | .op1_C7 => Sys2Proof.Machine.execOp1_C7 s
  | .op1_C8 => Sys2Proof.Machine.execOp1_C8 s
  | .op1_C9 => Sys2Proof.Machine.execOp1_C9 s
  | .op1_CA => Sys2Proof.Machine.execOp1_CA s
  | .op1_CB => Sys2Proof.Machine.execOp1_CB s
  | .op1_CC => Sys2Proof.Machine.execOp1_CC s
  | .op1_CD => Sys2Proof.Machine.execOp1_CD s
  | .op1_CE => Sys2Proof.Machine.execOp1_CE s
  | .op1_CF => Sys2Proof.Machine.execOp1_CF s
  | .op1_D0_D3 lo => Sys2Proof.Machine.execOp1_D0_D3 lo s
  | .op1_D4_D5 lo => Sys2Proof.Machine.execOp1_D4_D5 lo s
  | .op1_D6 => Sys2Proof.Machine.execOp1_D6 s
  | .op1_D7 => Sys2Proof.Machine.execOp1_D7 s
  | .op1_D8_DF lo => Sys2Proof.Machine.execOp1_D8_DF lo s
  | .op1_E0_E3 lo => Sys2Proof.Machine.execOp1_E0_E3 lo s
  | .op1_E4_E7 lo => Sys2Proof.Machine.execOp1_E4_E7 lo s
  | .op1_E8_E9 lo => Sys2Proof.Machine.execOp1_E8_E9 lo s
  | .op1_EA => Sys2Proof.Machine.execOp1_EA s
  | .op1_EB => Sys2Proof.Machine.execOp1_EB s
  | .op1_EC_EF lo => Sys2Proof.Machine.execOp1_EC_EF lo s
  | .op1_F0 => Sys2Proof.Machine.execOp1_F0 s
  | .op1_F1 => Sys2Proof.Machine.execOp1_F1 s
  | .op1_F2_F3 lo => Sys2Proof.Machine.execOp1_F2_F3 lo s
  | .op1_F4_F5 lo => Sys2Proof.Machine.execOp1_F4_F5 lo s
  | .op1_F6 => Sys2Proof.Machine.execOp1_F6 s
  | .op1_F7 => Sys2Proof.Machine.execOp1_F7 s
  | .op1_F8_FB lo => Sys2Proof.Machine.execOp1_F8_FB lo s
  | .op1_FC_FD lo => Sys2Proof.Machine.execOp1_FC_FD lo s
  | .op1_FE => Sys2Proof.Machine.execOp1_FE s
  | .op1_FF => Sys2Proof.Machine.execOp1_FF s
  | .op1_F6_r0 mod rm => Sys2Proof.Machine.execOp1_F6_r0 mod rm s
  | .op1_F6_r1 mod rm => Sys2Proof.Machine.execOp1_F6_r1 mod rm s
  | .op1_F6_r2 mod rm => Sys2Proof.Machine.execOp1_F6_r2 mod rm s
  | .op1_F6_r3 mod rm => Sys2Proof.Machine.execOp1_F6_r3 mod rm s
  | .op1_F6_r4 mod rm => Sys2Proof.Machine.execOp1_F6_r4 mod rm s
  | .op1_F6_r5 mod rm => Sys2Proof.Machine.execOp1_F6_r5 mod rm s
  | .op1_F6_r6 mod rm => Sys2Proof.Machine.execOp1_F6_r6 mod rm s
  | .op1_F6_r7 mod rm => Sys2Proof.Machine.execOp1_F6_r7 mod rm s
  | .op1_F7_r0 mod rm => Sys2Proof.Machine.execOp1_F7_r0 mod rm s
  | .op1_F7_r1 mod rm => Sys2Proof.Machine.execOp1_F7_r1 mod rm s
  | .op1_F7_r2 mod rm => Sys2Proof.Machine.execOp1_F7_r2 mod rm s
  | .op1_F7_r3 mod rm => Sys2Proof.Machine.execOp1_F7_r3 mod rm s
  | .op1_F7_r4 mod rm => Sys2Proof.Machine.execOp1_F7_r4 mod rm s
  | .op1_F7_r5 mod rm => Sys2Proof.Machine.execOp1_F7_r5 mod rm s
  | .op1_F7_r6 mod rm => Sys2Proof.Machine.execOp1_F7_r6 mod rm s
  | .op1_F7_r7 mod rm => Sys2Proof.Machine.execOp1_F7_r7 mod rm s
  | .op2_01_inW01 op2 => Sys2Proof.Machine.execOp2_01_inW01 op2 s
  | .op2_01_other op2 => Sys2Proof.Machine.execOp2_01_other op2 s
  | .op2_38_other op2 => Sys2Proof.Machine.execOp2_38_other op2 s
  | .op2_3A_inW3A_NI op2 => Sys2Proof.Machine.execOp2_3A_inW3A_NI op2 s
  | .op2_3A_other op2 => Sys2Proof.Machine.execOp2_3A_other op2 s
  | .op2_00 => Sys2Proof.Machine.execOp2_00 s
  | .op2_01 => Sys2Proof.Machine.execOp2_01 s
  | .op2_02_03 lo => Sys2Proof.Machine.execOp2_02_03 lo s
  | .op2_04 => Sys2Proof.Machine.execOp2_04 s
  | .op2_05 => Sys2Proof.Machine.execOp2_05 s
  | .op2_06_07 lo => Sys2Proof.Machine.execOp2_06_07 lo s
  | .op2_08_09 lo => Sys2Proof.Machine.execOp2_08_09 lo s
  | .op2_0A => Sys2Proof.Machine.execOp2_0A s
  | .op2_0B => Sys2Proof.Machine.execOp2_0B s
  | .op2_0C => Sys2Proof.Machine.execOp2_0C s
  | .op2_0D => Sys2Proof.Machine.execOp2_0D s
  | .op2_0E_0F lo => Sys2Proof.Machine.execOp2_0E_0F lo s
  | .op2_10_17 lo => Sys2Proof.Machine.execOp2_10_17 lo s
  | .op2_18_1B lo => Sys2Proof.Machine.execOp2_18_1B lo s
  | .op2_1C_1D lo => Sys2Proof.Machine.execOp2_1C_1D lo s
  | .op2_1E => Sys2Proof.Machine.execOp2_1E s
  | .op2_1F => Sys2Proof.Machine.execOp2_1F s
  | .op2_20_23 lo => Sys2Proof.Machine.execOp2_20_23 lo s
  | .op2_24_27 lo => Sys2Proof.Machine.execOp2_24_27 lo s
  | .op2_28_2F lo => Sys2Proof.Machine.execOp2_28_2F lo s
  | .op2_30_33 lo => Sys2Proof.Machine.execOp2_30_33 lo s
  | .op2_34_35 lo => Sys2Proof.Machine.execOp2_34_35 lo s
  | .op2_36 => Sys2Proof.Machine.execOp2_36 s
  | .op2_37 => Sys2Proof.Machine.execOp2_37 s
  | .op2_38 => Sys2Proof.Machine.execOp2_38 s
  | .op2_39 => Sys2Proof.Machine.execOp2_39 s
  | .op2_3A => Sys2Proof.Machine.execOp2_3A s
  | .op2_3B => Sys2Proof.Machine.execOp2_3B s
  | .op2_3C_3F lo => Sys2Proof.Machine.execOp2_3C_3F lo s
  | .op2_40_4F lo => Sys2Proof.Machine.execOp2_40_4F lo s
  | .op2_50_5F lo => Sys2Proof.Machine.execOp2_50_5F lo s
  | .op2_60_6F lo => Sys2Proof.Machine.execOp2_60_6F lo s
  | .op2_70 => Sys2Proof.Machine.execOp2_70 s
  | .op2_71 => Sys2Proof.Machine.execOp2_71 s
  | .op2_72_73 lo => Sys2Proof.Machine.execOp2_72_73 lo s
  | .op2_74_75 lo => Sys2Proof.Machine.execOp2_74_75 lo s
  | .op2_76 => Sys2Proof.Machine.execOp2_76 s
  | .op2_77 => Sys2Proof.Machine.execOp2_77 s
  | .op2_78_79 lo => Sys2Proof.Machine.execOp2_78_79 lo s
  | .op2_7A_7B lo => Sys2Proof.Machine.execOp2_7A_7B lo s
  | .op2_7C_7F lo => Sys2Proof.Machine.execOp2_7C_7F lo s
  | .op2_80_8F lo => Sys2Proof.Machine.execOp2_80_8F lo s
  | .op2_90_9F lo => Sys2Proof.Machine.execOp2_90_9F lo s
  | .op2_A0_A1 lo => Sys2Proof.Machine.execOp2_A0_A1 lo s
  | .op2_A2 => Sys2Proof.Machine.execOp2_A2 s
  | .op2_A3 => Sys2Proof.Machine.execOp2_A3 s
  | .op2_A4 => Sys2Proof.Machine.execOp2_A4 s
  | .op2_A5 => Sys2Proof.Machine.execOp2_A5 s
  | .op2_A6_A7 lo => Sys2Proof.Machine.execOp2_A6_A7 lo s
  | .op2_A8_A9 lo => Sys2Proof.Machine.execOp2_A8_A9 lo s
  | .op2_AA => Sys2Proof.Machine.execOp2_AA s
  | .op2_AB => Sys2Proof.Machine.execOp2_AB s
  | .op2_AC => Sys2Proof.Machine.execOp2_AC s
  | .op2_AD => Sys2Proof.Machine.execOp2_AD s
  | .op2_AE => Sys2Proof.Machine.execOp2_AE s
  | .op2_AF => Sys2Proof.Machine.execOp2_AF s
  | .op2_B0_B7 lo => Sys2Proof.Machine.execOp2_B0_B7 lo s
  | .op2_B8 => Sys2Proof.Machine.execOp2_B8 s
  | .op2_B9 => Sys2Proof.Machine.execOp2_B9 s
  | .op2_BA => Sys2Proof.Machine.execOp2_BA s
  | .op2_BB => Sys2Proof.Machine.execOp2_BB s
  | .op2_BC_BF lo => Sys2Proof.Machine.execOp2_BC_BF lo s
  | .op2_C0_C1 lo => Sys2Proof.Machine.execOp2_C0_C1 lo s
  | .op2_C2 => Sys2Proof.Machine.execOp2_C2 s
  | .op2_C3 => Sys2Proof.Machine.execOp2_C3 s
  | .op2_C4_C5 lo => Sys2Proof.Machine.execOp2_C4_C5 lo s
  | .op2_C6 => Sys2Proof.Machine.execOp2_C6 s
  | .op2_C7 => Sys2Proof.Machine.execOp2_C7 s
  | .op2_C8_CF lo => Sys2Proof.Machine.execOp2_C8_CF lo s
  | .op2_D0_DF lo => Sys2Proof.Machine.execOp2_D0_DF lo s
  | .op2_E0_EF lo => Sys2Proof.Machine.execOp2_E0_EF lo s
  | .op2_F0_F7 lo => Sys2Proof.Machine.execOp2_F0_F7 lo s
  | .op2_F8_FB lo => Sys2Proof.Machine.execOp2_F8_FB lo s
  | .op2_FC_FD lo => Sys2Proof.Machine.execOp2_FC_FD lo s
  | .op2_FE => Sys2Proof.Machine.execOp2_FE s
  | .op2_FF => Sys2Proof.Machine.execOp2_FF s
  | .op2_38_00 => Sys2Proof.Machine.execOp2_38_00 s
  | .op2_38_01 => Sys2Proof.Machine.execOp2_38_01 s
  | .op2_38_02 => Sys2Proof.Machine.execOp2_38_02 s
  | .op2_38_03 => Sys2Proof.Machine.execOp2_38_03 s
  | .op2_38_04 => Sys2Proof.Machine.execOp2_38_04 s
  | .op2_38_05 => Sys2Proof.Machine.execOp2_38_05 s
  | .op2_38_06 => Sys2Proof.Machine.execOp2_38_06 s
  | .op2_38_07 => Sys2Proof.Machine.execOp2_38_07 s
  | .op2_38_08 => Sys2Proof.Machine.execOp2_38_08 s
  | .op2_38_09 => Sys2Proof.Machine.execOp2_38_09 s
  | .op2_38_0A => Sys2Proof.Machine.execOp2_38_0A s
  | .op2_38_0B => Sys2Proof.Machine.execOp2_38_0B s
  | .op2_3A_08 => Sys2Proof.Machine.execOp2_3A_08 s
  | .op2_3A_09 => Sys2Proof.Machine.execOp2_3A_09 s
  | .op2_3A_0A => Sys2Proof.Machine.execOp2_3A_0A s
  | .op2_3A_0B => Sys2Proof.Machine.execOp2_3A_0B s
  | .op2_3A_0C => Sys2Proof.Machine.execOp2_3A_0C s
  | .op2_3A_0D => Sys2Proof.Machine.execOp2_3A_0D s
  | .op2_3A_0E => Sys2Proof.Machine.execOp2_3A_0E s
  | .op2_3A_0F => Sys2Proof.Machine.execOp2_3A_0F s
  | .op2_3A_14 => Sys2Proof.Machine.execOp2_3A_14 s
  | .op2_3A_15 => Sys2Proof.Machine.execOp2_3A_15 s
  | .op2_3A_16 => Sys2Proof.Machine.execOp2_3A_16 s
  | .op2_3A_17 => Sys2Proof.Machine.execOp2_3A_17 s
  | .op2_3A_20 => Sys2Proof.Machine.execOp2_3A_20 s
  | .op2_3A_21 => Sys2Proof.Machine.execOp2_3A_21 s
  | .op2_3A_22 => Sys2Proof.Machine.execOp2_3A_22 s
  | .op2_3A_40 => Sys2Proof.Machine.execOp2_3A_40 s
  | .op2_3A_41 => Sys2Proof.Machine.execOp2_3A_41 s
  | .op2_3A_42 => Sys2Proof.Machine.execOp2_3A_42 s
  | .op2_3A_44 => Sys2Proof.Machine.execOp2_3A_44 s
  | .op2_3A_60 => Sys2Proof.Machine.execOp2_3A_60 s
  | .op2_3A_61 => Sys2Proof.Machine.execOp2_3A_61 s
  | .op2_3A_62 => Sys2Proof.Machine.execOp2_3A_62 s
  | .op2_3A_63 => Sys2Proof.Machine.execOp2_3A_63 s
  | .op2_3A_DF => Sys2Proof.Machine.execOp2_3A_DF s

end Sys2Proof.Machine
end

