-- ==== Sys2Proof/WellFormed.lean ====
section
/-! DEFINITION. Well-formed instructions: the rows whose last pattern byte is tested against a whitelist (`op2_in`, R85)
are well-formed when that byte is on the row's side of the list (R172 to R174).  See assumption 13.  Every other row's operands are
of a type that fits exactly. -/

namespace Sys2Proof

open Machine in
/-- The `op2_in` test of a row; `true` for a row without one. -/
def Instr.wellFormed : Instr → Bool
  | .op1_00_03 _ => true
  | .op1_04 => true
  | .op1_05 => true
  | .op1_06_07 _ => true
  | .op1_08_0B _ => true
  | .op1_0C => true
  | .op1_0D => true
  | .op1_0E => true
  | .op1_0F => true
  | .op1_10_13 _ => true
  | .op1_14 => true
  | .op1_15 => true
  | .op1_16_17 _ => true
  | .op1_18_1B _ => true
  | .op1_1C => true
  | .op1_1D => true
  | .op1_1E_1F _ => true
  | .op1_20_23 _ => true
  | .op1_24 => true
  | .op1_25 => true
  | .op1_26 => true
  | .op1_27 => true
  | .op1_28_2B _ => true
  | .op1_2C => true
  | .op1_2D => true
  | .op1_2E => true
  | .op1_2F => true
  | .op1_30_33 _ => true
  | .op1_34 => true
  | .op1_35 => true
  | .op1_36 => true
  | .op1_37 => true
  | .op1_38_3B _ => true
  | .op1_3C => true
  | .op1_3D => true
  | .op1_3E => true
  | .op1_3F => true
  | .op1_40_47 _ => true
  | .op1_48_4F _ => true
  | .op1_50_57 _ => true
  | .op1_58_5F _ => true
  | .op1_60_61 _ => true
  | .op1_62 => true
  | .op1_63 => true
  | .op1_64_65 _ => true
  | .op1_66 => true
  | .op1_67 => true
  | .op1_68 => true
  | .op1_69 => true
  | .op1_6A => true
  | .op1_6B => true
  | .op1_6C_6F _ => true
  | .op1_70_7F _ => true
  | .op1_80 => true
  | .op1_81 => true
  | .op1_82 => true
  | .op1_83 => true
  | .op1_84_87 _ => true
  | .op1_88 => true
  | .op1_89 => true
  | .op1_8A_8B _ => true
  | .op1_8C_8D _ => true
  | .op1_8E => true
  | .op1_8F => true
  | .op1_90 => true
  | .op1_91 => true
  | .op1_92_93 _ => true
  | .op1_94_97 _ => true
  | .op1_98_99 _ => true
  | .op1_9A => true
  | .op1_9B => true
  | .op1_9C_9F _ => true
  | .op1_A0_A3 _ => true
  | .op1_A4_A7 _ => true
  | .op1_A8 => true
  | .op1_A9 => true
  | .op1_AA_AB _ => true
  | .op1_AC_AF _ => true
  | .op1_B0_B7 _ => true
  | .op1_B8_BF _ => true
  | .op1_C0_C1 _ => true
  | .op1_C2 => true
  | .op1_C3 => true
  | .op1_C4_C5 _ => true
  | .op1_C6 => true
  | .op1_C7 => true
  | .op1_C8 => true
  | .op1_C9 => true
  | .op1_CA => true
  | .op1_CB => true
  | .op1_CC => true
  | .op1_CD => true
  | .op1_CE => true
  | .op1_CF => true
  | .op1_D0_D3 _ => true
  | .op1_D4_D5 _ => true
  | .op1_D6 => true
  | .op1_D7 => true
  | .op1_D8_DF _ => true
  | .op1_E0_E3 _ => true
  | .op1_E4_E7 _ => true
  | .op1_E8_E9 _ => true
  | .op1_EA => true
  | .op1_EB => true
  | .op1_EC_EF _ => true
  | .op1_F0 => true
  | .op1_F1 => true
  | .op1_F2_F3 _ => true
  | .op1_F4_F5 _ => true
  | .op1_F6 => true
  | .op1_F7 => true
  | .op1_F8_FB _ => true
  | .op1_FC_FD _ => true
  | .op1_FE => true
  | .op1_FF => true
  | .op1_F6_r0 _ _ => true
  | .op1_F6_r1 _ _ => true
  | .op1_F6_r2 _ _ => true
  | .op1_F6_r3 _ _ => true
  | .op1_F6_r4 _ _ => true
  | .op1_F6_r5 _ _ => true
  | .op1_F6_r6 _ _ => true
  | .op1_F6_r7 _ _ => true
  | .op1_F7_r0 _ _ => true
  | .op1_F7_r1 _ _ => true
  | .op1_F7_r2 _ _ => true
  | .op1_F7_r3 _ _ => true
  | .op1_F7_r4 _ _ => true
  | .op1_F7_r5 _ _ => true
  | .op1_F7_r6 _ _ => true
  | .op1_F7_r7 _ _ => true
  | .op2_01_inW01 op2 => decide (op2 ∈ machineConfig.w01)
  | .op2_01_other op2 => decide (op2 ∉ machineConfig.w01)
  | .op2_38_other op2 => decide (op2 ∉ machineConfig.w38)
  | .op2_3A_inW3A_NI op2 => decide (op2 ∈ machineConfig.w3aNI ∧ op2 ∉ machineConfig.w3aI8)
  | .op2_3A_other op2 => decide (op2 ∉ machineConfig.w3aI8 ∧ op2 ∉ machineConfig.w3aNI)
  | .op2_00 => true
  | .op2_01 => true
  | .op2_02_03 _ => true
  | .op2_04 => true
  | .op2_05 => true
  | .op2_06_07 _ => true
  | .op2_08_09 _ => true
  | .op2_0A => true
  | .op2_0B => true
  | .op2_0C => true
  | .op2_0D => true
  | .op2_0E_0F _ => true
  | .op2_10_17 _ => true
  | .op2_18_1B _ => true
  | .op2_1C_1D _ => true
  | .op2_1E => true
  | .op2_1F => true
  | .op2_20_23 _ => true
  | .op2_24_27 _ => true
  | .op2_28_2F _ => true
  | .op2_30_33 _ => true
  | .op2_34_35 _ => true
  | .op2_36 => true
  | .op2_37 => true
  | .op2_38 => true
  | .op2_39 => true
  | .op2_3A => true
  | .op2_3B => true
  | .op2_3C_3F _ => true
  | .op2_40_4F _ => true
  | .op2_50_5F _ => true
  | .op2_60_6F _ => true
  | .op2_70 => true
  | .op2_71 => true
  | .op2_72_73 _ => true
  | .op2_74_75 _ => true
  | .op2_76 => true
  | .op2_77 => true
  | .op2_78_79 _ => true
  | .op2_7A_7B _ => true
  | .op2_7C_7F _ => true
  | .op2_80_8F _ => true
  | .op2_90_9F _ => true
  | .op2_A0_A1 _ => true
  | .op2_A2 => true
  | .op2_A3 => true
  | .op2_A4 => true
  | .op2_A5 => true
  | .op2_A6_A7 _ => true
  | .op2_A8_A9 _ => true
  | .op2_AA => true
  | .op2_AB => true
  | .op2_AC => true
  | .op2_AD => true
  | .op2_AE => true
  | .op2_AF => true
  | .op2_B0_B7 _ => true
  | .op2_B8 => true
  | .op2_B9 => true
  | .op2_BA => true
  | .op2_BB => true
  | .op2_BC_BF _ => true
  | .op2_C0_C1 _ => true
  | .op2_C2 => true
  | .op2_C3 => true
  | .op2_C4_C5 _ => true
  | .op2_C6 => true
  | .op2_C7 => true
  | .op2_C8_CF _ => true
  | .op2_D0_DF _ => true
  | .op2_E0_EF _ => true
  | .op2_F0_F7 _ => true
  | .op2_F8_FB _ => true
  | .op2_FC_FD _ => true
  | .op2_FE => true
  | .op2_FF => true
  | .op2_38_00 => decide (0x00#8 ∈ machineConfig.w38)
  | .op2_38_01 => decide (0x01#8 ∈ machineConfig.w38)
  | .op2_38_02 => decide (0x02#8 ∈ machineConfig.w38)
  | .op2_38_03 => decide (0x03#8 ∈ machineConfig.w38)
  | .op2_38_04 => decide (0x04#8 ∈ machineConfig.w38)
  | .op2_38_05 => decide (0x05#8 ∈ machineConfig.w38)
  | .op2_38_06 => decide (0x06#8 ∈ machineConfig.w38)
  | .op2_38_07 => decide (0x07#8 ∈ machineConfig.w38)
  | .op2_38_08 => decide (0x08#8 ∈ machineConfig.w38)
  | .op2_38_09 => decide (0x09#8 ∈ machineConfig.w38)
  | .op2_38_0A => decide (0x0A#8 ∈ machineConfig.w38)
  | .op2_38_0B => decide (0x0B#8 ∈ machineConfig.w38)
  | .op2_3A_08 => decide (0x08#8 ∈ machineConfig.w3aI8)
  | .op2_3A_09 => decide (0x09#8 ∈ machineConfig.w3aI8)
  | .op2_3A_0A => decide (0x0A#8 ∈ machineConfig.w3aI8)
  | .op2_3A_0B => decide (0x0B#8 ∈ machineConfig.w3aI8)
  | .op2_3A_0C => decide (0x0C#8 ∈ machineConfig.w3aI8)
  | .op2_3A_0D => decide (0x0D#8 ∈ machineConfig.w3aI8)
  | .op2_3A_0E => decide (0x0E#8 ∈ machineConfig.w3aI8)
  | .op2_3A_0F => decide (0x0F#8 ∈ machineConfig.w3aI8)
  | .op2_3A_14 => decide (0x14#8 ∈ machineConfig.w3aI8)
  | .op2_3A_15 => decide (0x15#8 ∈ machineConfig.w3aI8)
  | .op2_3A_16 => decide (0x16#8 ∈ machineConfig.w3aI8)
  | .op2_3A_17 => decide (0x17#8 ∈ machineConfig.w3aI8)
  | .op2_3A_20 => decide (0x20#8 ∈ machineConfig.w3aI8)
  | .op2_3A_21 => decide (0x21#8 ∈ machineConfig.w3aI8)
  | .op2_3A_22 => decide (0x22#8 ∈ machineConfig.w3aI8)
  | .op2_3A_40 => decide (0x40#8 ∈ machineConfig.w3aI8)
  | .op2_3A_41 => decide (0x41#8 ∈ machineConfig.w3aI8)
  | .op2_3A_42 => decide (0x42#8 ∈ machineConfig.w3aI8)
  | .op2_3A_44 => decide (0x44#8 ∈ machineConfig.w3aI8)
  | .op2_3A_60 => decide (0x60#8 ∈ machineConfig.w3aI8)
  | .op2_3A_61 => decide (0x61#8 ∈ machineConfig.w3aI8)
  | .op2_3A_62 => decide (0x62#8 ∈ machineConfig.w3aI8)
  | .op2_3A_63 => decide (0x63#8 ∈ machineConfig.w3aI8)
  | .op2_3A_DF => decide (0xDF#8 ∈ machineConfig.w3aI8)

/-- The predicate the statements use. -/
abbrev WellFormed (i : Instr) : Prop := i.wellFormed = true

end Sys2Proof
end

