-- ==== Sys2Proof/Decode.lean ====
section
/-! DEFINITION. The decoder and, after it, the encoder.

What is decoded is what stands at the cursor (R85: "a pattern matches at the position where the prefix phase
stopped").  Which rows are eligible depends on where the block is (R35): the rows of `T1`, those of `T2` once
the escape has been consumed, and, once a `multi` entry has been found, the rows that resolve the pair of opcode
byte and second byte (R199).  A row is the `match` and `mask` of `spec/opcode_table.json`, over the pattern bytes
in stream order, first byte most significant, the escape `0F` shown in front of every `T2` row (R85). -/

namespace Sys2Proof

/-- One row of the opcode table: `v AND mask = pat` selects it, and `build v` is the instruction. -/
structure Row where
  pat : Nat
  mask : Nat
  build : Nat → Instr

/-- Why the decoder gives no instruction. -/
inductive Reject
  /-- There is no byte at the cursor: the window is exhausted (R192). -/
  | noByte
  /-- The second byte that the resolver must inspect is not there (R171). -/
  | noSecondByte
  /-- No row of the active table matches the byte.  Never answered: the tables are total (R100). -/
  | noEntry
  /-- The opcode byte has no arm in the resolver (R177). -/
  | noArm
  deriving DecidableEq, Repr

/-- What the decoder answers. -/
inductive Decoded
  | instr (i : Instr)
  | reject (r : Reject)
  deriving DecidableEq, Repr

/-- The rows of `T1`, part 1. -/
def t1RowsA : List Row :=
  [ ⟨0x00, 0xFC, fun v => .op1_00_03 (BitVec.ofNat 2 v)⟩,
    ⟨0x04, 0xFF, fun _ => .op1_04⟩,
    ⟨0x05, 0xFF, fun _ => .op1_05⟩,
    ⟨0x06, 0xFE, fun v => .op1_06_07 (BitVec.ofNat 1 v)⟩,
    ⟨0x08, 0xFC, fun v => .op1_08_0B (BitVec.ofNat 2 v)⟩,
    ⟨0x0C, 0xFF, fun _ => .op1_0C⟩,
    ⟨0x0D, 0xFF, fun _ => .op1_0D⟩,
    ⟨0x0E, 0xFF, fun _ => .op1_0E⟩,
    ⟨0x0F, 0xFF, fun _ => .op1_0F⟩,
    ⟨0x10, 0xFC, fun v => .op1_10_13 (BitVec.ofNat 2 v)⟩,
    ⟨0x14, 0xFF, fun _ => .op1_14⟩,
    ⟨0x15, 0xFF, fun _ => .op1_15⟩,
    ⟨0x16, 0xFE, fun v => .op1_16_17 (BitVec.ofNat 1 v)⟩,
    ⟨0x18, 0xFC, fun v => .op1_18_1B (BitVec.ofNat 2 v)⟩,
    ⟨0x1C, 0xFF, fun _ => .op1_1C⟩,
    ⟨0x1D, 0xFF, fun _ => .op1_1D⟩,
    ⟨0x1E, 0xFE, fun v => .op1_1E_1F (BitVec.ofNat 1 v)⟩,
    ⟨0x20, 0xFC, fun v => .op1_20_23 (BitVec.ofNat 2 v)⟩,
    ⟨0x24, 0xFF, fun _ => .op1_24⟩,
    ⟨0x25, 0xFF, fun _ => .op1_25⟩,
    ⟨0x26, 0xFF, fun _ => .op1_26⟩,
    ⟨0x27, 0xFF, fun _ => .op1_27⟩,
    ⟨0x28, 0xFC, fun v => .op1_28_2B (BitVec.ofNat 2 v)⟩,
    ⟨0x2C, 0xFF, fun _ => .op1_2C⟩ ]

/-- The rows of `T1`, part 2. -/
def t1RowsB : List Row :=
  [ ⟨0x2D, 0xFF, fun _ => .op1_2D⟩,
    ⟨0x2E, 0xFF, fun _ => .op1_2E⟩,
    ⟨0x2F, 0xFF, fun _ => .op1_2F⟩,
    ⟨0x30, 0xFC, fun v => .op1_30_33 (BitVec.ofNat 2 v)⟩,
    ⟨0x34, 0xFF, fun _ => .op1_34⟩,
    ⟨0x35, 0xFF, fun _ => .op1_35⟩,
    ⟨0x36, 0xFF, fun _ => .op1_36⟩,
    ⟨0x37, 0xFF, fun _ => .op1_37⟩,
    ⟨0x38, 0xFC, fun v => .op1_38_3B (BitVec.ofNat 2 v)⟩,
    ⟨0x3C, 0xFF, fun _ => .op1_3C⟩,
    ⟨0x3D, 0xFF, fun _ => .op1_3D⟩,
    ⟨0x3E, 0xFF, fun _ => .op1_3E⟩,
    ⟨0x3F, 0xFF, fun _ => .op1_3F⟩,
    ⟨0x40, 0xF8, fun v => .op1_40_47 (BitVec.ofNat 3 v)⟩,
    ⟨0x48, 0xF8, fun v => .op1_48_4F (BitVec.ofNat 3 v)⟩,
    ⟨0x50, 0xF8, fun v => .op1_50_57 (BitVec.ofNat 3 v)⟩,
    ⟨0x58, 0xF8, fun v => .op1_58_5F (BitVec.ofNat 3 v)⟩,
    ⟨0x60, 0xFE, fun v => .op1_60_61 (BitVec.ofNat 1 v)⟩,
    ⟨0x62, 0xFF, fun _ => .op1_62⟩,
    ⟨0x63, 0xFF, fun _ => .op1_63⟩,
    ⟨0x64, 0xFE, fun v => .op1_64_65 (BitVec.ofNat 1 v)⟩,
    ⟨0x66, 0xFF, fun _ => .op1_66⟩,
    ⟨0x67, 0xFF, fun _ => .op1_67⟩,
    ⟨0x68, 0xFF, fun _ => .op1_68⟩ ]

/-- The rows of `T1`, part 3. -/
def t1RowsC : List Row :=
  [ ⟨0x69, 0xFF, fun _ => .op1_69⟩,
    ⟨0x6A, 0xFF, fun _ => .op1_6A⟩,
    ⟨0x6B, 0xFF, fun _ => .op1_6B⟩,
    ⟨0x6C, 0xFC, fun v => .op1_6C_6F (BitVec.ofNat 2 v)⟩,
    ⟨0x70, 0xF0, fun v => .op1_70_7F (BitVec.ofNat 4 v)⟩,
    ⟨0x80, 0xFF, fun _ => .op1_80⟩,
    ⟨0x81, 0xFF, fun _ => .op1_81⟩,
    ⟨0x82, 0xFF, fun _ => .op1_82⟩,
    ⟨0x83, 0xFF, fun _ => .op1_83⟩,
    ⟨0x84, 0xFC, fun v => .op1_84_87 (BitVec.ofNat 2 v)⟩,
    ⟨0x88, 0xFF, fun _ => .op1_88⟩,
    ⟨0x89, 0xFF, fun _ => .op1_89⟩,
    ⟨0x8A, 0xFE, fun v => .op1_8A_8B (BitVec.ofNat 1 v)⟩,
    ⟨0x8C, 0xFE, fun v => .op1_8C_8D (BitVec.ofNat 1 v)⟩,
    ⟨0x8E, 0xFF, fun _ => .op1_8E⟩,
    ⟨0x8F, 0xFF, fun _ => .op1_8F⟩,
    ⟨0x90, 0xFF, fun _ => .op1_90⟩,
    ⟨0x91, 0xFF, fun _ => .op1_91⟩,
    ⟨0x92, 0xFE, fun v => .op1_92_93 (BitVec.ofNat 1 v)⟩,
    ⟨0x94, 0xFC, fun v => .op1_94_97 (BitVec.ofNat 2 v)⟩,
    ⟨0x98, 0xFE, fun v => .op1_98_99 (BitVec.ofNat 1 v)⟩,
    ⟨0x9A, 0xFF, fun _ => .op1_9A⟩,
    ⟨0x9B, 0xFF, fun _ => .op1_9B⟩,
    ⟨0x9C, 0xFC, fun v => .op1_9C_9F (BitVec.ofNat 2 v)⟩ ]

/-- The rows of `T1`, part 4. -/
def t1RowsD : List Row :=
  [ ⟨0xA0, 0xFC, fun v => .op1_A0_A3 (BitVec.ofNat 2 v)⟩,
    ⟨0xA4, 0xFC, fun v => .op1_A4_A7 (BitVec.ofNat 2 v)⟩,
    ⟨0xA8, 0xFF, fun _ => .op1_A8⟩,
    ⟨0xA9, 0xFF, fun _ => .op1_A9⟩,
    ⟨0xAA, 0xFE, fun v => .op1_AA_AB (BitVec.ofNat 1 v)⟩,
    ⟨0xAC, 0xFC, fun v => .op1_AC_AF (BitVec.ofNat 2 v)⟩,
    ⟨0xB0, 0xF8, fun v => .op1_B0_B7 (BitVec.ofNat 3 v)⟩,
    ⟨0xB8, 0xF8, fun v => .op1_B8_BF (BitVec.ofNat 3 v)⟩,
    ⟨0xC0, 0xFE, fun v => .op1_C0_C1 (BitVec.ofNat 1 v)⟩,
    ⟨0xC2, 0xFF, fun _ => .op1_C2⟩,
    ⟨0xC3, 0xFF, fun _ => .op1_C3⟩,
    ⟨0xC4, 0xFE, fun v => .op1_C4_C5 (BitVec.ofNat 1 v)⟩,
    ⟨0xC6, 0xFF, fun _ => .op1_C6⟩,
    ⟨0xC7, 0xFF, fun _ => .op1_C7⟩,
    ⟨0xC8, 0xFF, fun _ => .op1_C8⟩,
    ⟨0xC9, 0xFF, fun _ => .op1_C9⟩,
    ⟨0xCA, 0xFF, fun _ => .op1_CA⟩,
    ⟨0xCB, 0xFF, fun _ => .op1_CB⟩,
    ⟨0xCC, 0xFF, fun _ => .op1_CC⟩,
    ⟨0xCD, 0xFF, fun _ => .op1_CD⟩,
    ⟨0xCE, 0xFF, fun _ => .op1_CE⟩,
    ⟨0xCF, 0xFF, fun _ => .op1_CF⟩,
    ⟨0xD0, 0xFC, fun v => .op1_D0_D3 (BitVec.ofNat 2 v)⟩,
    ⟨0xD4, 0xFE, fun v => .op1_D4_D5 (BitVec.ofNat 1 v)⟩ ]

/-- The rows of `T1`, part 5. -/
def t1RowsE : List Row :=
  [ ⟨0xD6, 0xFF, fun _ => .op1_D6⟩,
    ⟨0xD7, 0xFF, fun _ => .op1_D7⟩,
    ⟨0xD8, 0xF8, fun v => .op1_D8_DF (BitVec.ofNat 3 v)⟩,
    ⟨0xE0, 0xFC, fun v => .op1_E0_E3 (BitVec.ofNat 2 v)⟩,
    ⟨0xE4, 0xFC, fun v => .op1_E4_E7 (BitVec.ofNat 2 v)⟩,
    ⟨0xE8, 0xFE, fun v => .op1_E8_E9 (BitVec.ofNat 1 v)⟩,
    ⟨0xEA, 0xFF, fun _ => .op1_EA⟩,
    ⟨0xEB, 0xFF, fun _ => .op1_EB⟩,
    ⟨0xEC, 0xFC, fun v => .op1_EC_EF (BitVec.ofNat 2 v)⟩,
    ⟨0xF0, 0xFF, fun _ => .op1_F0⟩,
    ⟨0xF1, 0xFF, fun _ => .op1_F1⟩,
    ⟨0xF2, 0xFE, fun v => .op1_F2_F3 (BitVec.ofNat 1 v)⟩,
    ⟨0xF4, 0xFE, fun v => .op1_F4_F5 (BitVec.ofNat 1 v)⟩,
    ⟨0xF6, 0xFF, fun _ => .op1_F6⟩,
    ⟨0xF7, 0xFF, fun _ => .op1_F7⟩,
    ⟨0xF8, 0xFC, fun v => .op1_F8_FB (BitVec.ofNat 2 v)⟩,
    ⟨0xFC, 0xFE, fun v => .op1_FC_FD (BitVec.ofNat 1 v)⟩,
    ⟨0xFE, 0xFF, fun _ => .op1_FE⟩,
    ⟨0xFF, 0xFF, fun _ => .op1_FF⟩ ]

/-- The rows of `T1`. -/
def t1Rows : List Row := t1RowsA ++ t1RowsB ++ t1RowsC ++ t1RowsD ++ t1RowsE

/-- The rows of `T2`, part 1. -/
def t2RowsA : List Row :=
  [ ⟨0x0F00, 0xFFFF, fun _ => .op2_00⟩,
    ⟨0x0F01, 0xFFFF, fun _ => .op2_01⟩,
    ⟨0x0F02, 0xFFFE, fun v => .op2_02_03 (BitVec.ofNat 1 v)⟩,
    ⟨0x0F04, 0xFFFF, fun _ => .op2_04⟩,
    ⟨0x0F05, 0xFFFF, fun _ => .op2_05⟩,
    ⟨0x0F06, 0xFFFE, fun v => .op2_06_07 (BitVec.ofNat 1 v)⟩,
    ⟨0x0F08, 0xFFFE, fun v => .op2_08_09 (BitVec.ofNat 1 v)⟩,
    ⟨0x0F0A, 0xFFFF, fun _ => .op2_0A⟩,
    ⟨0x0F0B, 0xFFFF, fun _ => .op2_0B⟩,
    ⟨0x0F0C, 0xFFFF, fun _ => .op2_0C⟩,
    ⟨0x0F0D, 0xFFFF, fun _ => .op2_0D⟩,
    ⟨0x0F0E, 0xFFFE, fun v => .op2_0E_0F (BitVec.ofNat 1 v)⟩,
    ⟨0x0F10, 0xFFF8, fun v => .op2_10_17 (BitVec.ofNat 3 v)⟩,
    ⟨0x0F18, 0xFFFC, fun v => .op2_18_1B (BitVec.ofNat 2 v)⟩,
    ⟨0x0F1C, 0xFFFE, fun v => .op2_1C_1D (BitVec.ofNat 1 v)⟩,
    ⟨0x0F1E, 0xFFFF, fun _ => .op2_1E⟩,
    ⟨0x0F1F, 0xFFFF, fun _ => .op2_1F⟩,
    ⟨0x0F20, 0xFFFC, fun v => .op2_20_23 (BitVec.ofNat 2 v)⟩,
    ⟨0x0F24, 0xFFFC, fun v => .op2_24_27 (BitVec.ofNat 2 v)⟩,
    ⟨0x0F28, 0xFFF8, fun v => .op2_28_2F (BitVec.ofNat 3 v)⟩,
    ⟨0x0F30, 0xFFFC, fun v => .op2_30_33 (BitVec.ofNat 2 v)⟩,
    ⟨0x0F34, 0xFFFE, fun v => .op2_34_35 (BitVec.ofNat 1 v)⟩,
    ⟨0x0F36, 0xFFFF, fun _ => .op2_36⟩,
    ⟨0x0F37, 0xFFFF, fun _ => .op2_37⟩ ]

/-- The rows of `T2`, part 2. -/
def t2RowsB : List Row :=
  [ ⟨0x0F38, 0xFFFF, fun _ => .op2_38⟩,
    ⟨0x0F39, 0xFFFF, fun _ => .op2_39⟩,
    ⟨0x0F3A, 0xFFFF, fun _ => .op2_3A⟩,
    ⟨0x0F3B, 0xFFFF, fun _ => .op2_3B⟩,
    ⟨0x0F3C, 0xFFFC, fun v => .op2_3C_3F (BitVec.ofNat 2 v)⟩,
    ⟨0x0F40, 0xFFF0, fun v => .op2_40_4F (BitVec.ofNat 4 v)⟩,
    ⟨0x0F50, 0xFFF0, fun v => .op2_50_5F (BitVec.ofNat 4 v)⟩,
    ⟨0x0F60, 0xFFF0, fun v => .op2_60_6F (BitVec.ofNat 4 v)⟩,
    ⟨0x0F70, 0xFFFF, fun _ => .op2_70⟩,
    ⟨0x0F71, 0xFFFF, fun _ => .op2_71⟩,
    ⟨0x0F72, 0xFFFE, fun v => .op2_72_73 (BitVec.ofNat 1 v)⟩,
    ⟨0x0F74, 0xFFFE, fun v => .op2_74_75 (BitVec.ofNat 1 v)⟩,
    ⟨0x0F76, 0xFFFF, fun _ => .op2_76⟩,
    ⟨0x0F77, 0xFFFF, fun _ => .op2_77⟩,
    ⟨0x0F78, 0xFFFE, fun v => .op2_78_79 (BitVec.ofNat 1 v)⟩,
    ⟨0x0F7A, 0xFFFE, fun v => .op2_7A_7B (BitVec.ofNat 1 v)⟩,
    ⟨0x0F7C, 0xFFFC, fun v => .op2_7C_7F (BitVec.ofNat 2 v)⟩,
    ⟨0x0F80, 0xFFF0, fun v => .op2_80_8F (BitVec.ofNat 4 v)⟩,
    ⟨0x0F90, 0xFFF0, fun v => .op2_90_9F (BitVec.ofNat 4 v)⟩,
    ⟨0x0FA0, 0xFFFE, fun v => .op2_A0_A1 (BitVec.ofNat 1 v)⟩,
    ⟨0x0FA2, 0xFFFF, fun _ => .op2_A2⟩,
    ⟨0x0FA3, 0xFFFF, fun _ => .op2_A3⟩,
    ⟨0x0FA4, 0xFFFF, fun _ => .op2_A4⟩,
    ⟨0x0FA5, 0xFFFF, fun _ => .op2_A5⟩ ]

/-- The rows of `T2`, part 3. -/
def t2RowsC : List Row :=
  [ ⟨0x0FA6, 0xFFFE, fun v => .op2_A6_A7 (BitVec.ofNat 1 v)⟩,
    ⟨0x0FA8, 0xFFFE, fun v => .op2_A8_A9 (BitVec.ofNat 1 v)⟩,
    ⟨0x0FAA, 0xFFFF, fun _ => .op2_AA⟩,
    ⟨0x0FAB, 0xFFFF, fun _ => .op2_AB⟩,
    ⟨0x0FAC, 0xFFFF, fun _ => .op2_AC⟩,
    ⟨0x0FAD, 0xFFFF, fun _ => .op2_AD⟩,
    ⟨0x0FAE, 0xFFFF, fun _ => .op2_AE⟩,
    ⟨0x0FAF, 0xFFFF, fun _ => .op2_AF⟩,
    ⟨0x0FB0, 0xFFF8, fun v => .op2_B0_B7 (BitVec.ofNat 3 v)⟩,
    ⟨0x0FB8, 0xFFFF, fun _ => .op2_B8⟩,
    ⟨0x0FB9, 0xFFFF, fun _ => .op2_B9⟩,
    ⟨0x0FBA, 0xFFFF, fun _ => .op2_BA⟩,
    ⟨0x0FBB, 0xFFFF, fun _ => .op2_BB⟩,
    ⟨0x0FBC, 0xFFFC, fun v => .op2_BC_BF (BitVec.ofNat 2 v)⟩,
    ⟨0x0FC0, 0xFFFE, fun v => .op2_C0_C1 (BitVec.ofNat 1 v)⟩,
    ⟨0x0FC2, 0xFFFF, fun _ => .op2_C2⟩,
    ⟨0x0FC3, 0xFFFF, fun _ => .op2_C3⟩,
    ⟨0x0FC4, 0xFFFE, fun v => .op2_C4_C5 (BitVec.ofNat 1 v)⟩,
    ⟨0x0FC6, 0xFFFF, fun _ => .op2_C6⟩,
    ⟨0x0FC7, 0xFFFF, fun _ => .op2_C7⟩,
    ⟨0x0FC8, 0xFFF8, fun v => .op2_C8_CF (BitVec.ofNat 3 v)⟩,
    ⟨0x0FD0, 0xFFF0, fun v => .op2_D0_DF (BitVec.ofNat 4 v)⟩,
    ⟨0x0FE0, 0xFFF0, fun v => .op2_E0_EF (BitVec.ofNat 4 v)⟩,
    ⟨0x0FF0, 0xFFF8, fun v => .op2_F0_F7 (BitVec.ofNat 3 v)⟩ ]

/-- The rows of `T2`, part 4. -/
def t2RowsD : List Row :=
  [ ⟨0x0FF8, 0xFFFC, fun v => .op2_F8_FB (BitVec.ofNat 2 v)⟩,
    ⟨0x0FFC, 0xFFFE, fun v => .op2_FC_FD (BitVec.ofNat 1 v)⟩,
    ⟨0x0FFE, 0xFFFF, fun _ => .op2_FE⟩,
    ⟨0x0FFF, 0xFFFF, fun _ => .op2_FF⟩ ]

/-- The rows of `T2`. -/
def t2Rows : List Row := t2RowsA ++ t2RowsB ++ t2RowsC ++ t2RowsD

/-- The `reg`-dependent rows of `F6` (R175) and `F7` (R176). -/
def regRows : List Row :=
  [ ⟨0xF600, 0xFF38, fun v => .op1_F6_r0 (BitVec.ofNat 2 (v >>> 6)) (BitVec.ofNat 3 v)⟩,
    ⟨0xF608, 0xFF38, fun v => .op1_F6_r1 (BitVec.ofNat 2 (v >>> 6)) (BitVec.ofNat 3 v)⟩,
    ⟨0xF610, 0xFF38, fun v => .op1_F6_r2 (BitVec.ofNat 2 (v >>> 6)) (BitVec.ofNat 3 v)⟩,
    ⟨0xF618, 0xFF38, fun v => .op1_F6_r3 (BitVec.ofNat 2 (v >>> 6)) (BitVec.ofNat 3 v)⟩,
    ⟨0xF620, 0xFF38, fun v => .op1_F6_r4 (BitVec.ofNat 2 (v >>> 6)) (BitVec.ofNat 3 v)⟩,
    ⟨0xF628, 0xFF38, fun v => .op1_F6_r5 (BitVec.ofNat 2 (v >>> 6)) (BitVec.ofNat 3 v)⟩,
    ⟨0xF630, 0xFF38, fun v => .op1_F6_r6 (BitVec.ofNat 2 (v >>> 6)) (BitVec.ofNat 3 v)⟩,
    ⟨0xF638, 0xFF38, fun v => .op1_F6_r7 (BitVec.ofNat 2 (v >>> 6)) (BitVec.ofNat 3 v)⟩,
    ⟨0xF700, 0xFF38, fun v => .op1_F7_r0 (BitVec.ofNat 2 (v >>> 6)) (BitVec.ofNat 3 v)⟩,
    ⟨0xF708, 0xFF38, fun v => .op1_F7_r1 (BitVec.ofNat 2 (v >>> 6)) (BitVec.ofNat 3 v)⟩,
    ⟨0xF710, 0xFF38, fun v => .op1_F7_r2 (BitVec.ofNat 2 (v >>> 6)) (BitVec.ofNat 3 v)⟩,
    ⟨0xF718, 0xFF38, fun v => .op1_F7_r3 (BitVec.ofNat 2 (v >>> 6)) (BitVec.ofNat 3 v)⟩,
    ⟨0xF720, 0xFF38, fun v => .op1_F7_r4 (BitVec.ofNat 2 (v >>> 6)) (BitVec.ofNat 3 v)⟩,
    ⟨0xF728, 0xFF38, fun v => .op1_F7_r5 (BitVec.ofNat 2 (v >>> 6)) (BitVec.ofNat 3 v)⟩,
    ⟨0xF730, 0xFF38, fun v => .op1_F7_r6 (BitVec.ofNat 2 (v >>> 6)) (BitVec.ofNat 3 v)⟩,
    ⟨0xF738, 0xFF38, fun v => .op1_F7_r7 (BitVec.ofNat 2 (v >>> 6)) (BitVec.ofNat 3 v)⟩ ]

/-- The member rows of `0F 38` (R173). -/
def w38Rows : List Row :=
  [ ⟨0x0F3800, 0xFFFFFF, fun _ => .op2_38_00⟩,
    ⟨0x0F3801, 0xFFFFFF, fun _ => .op2_38_01⟩,
    ⟨0x0F3802, 0xFFFFFF, fun _ => .op2_38_02⟩,
    ⟨0x0F3803, 0xFFFFFF, fun _ => .op2_38_03⟩,
    ⟨0x0F3804, 0xFFFFFF, fun _ => .op2_38_04⟩,
    ⟨0x0F3805, 0xFFFFFF, fun _ => .op2_38_05⟩,
    ⟨0x0F3806, 0xFFFFFF, fun _ => .op2_38_06⟩,
    ⟨0x0F3807, 0xFFFFFF, fun _ => .op2_38_07⟩,
    ⟨0x0F3808, 0xFFFFFF, fun _ => .op2_38_08⟩,
    ⟨0x0F3809, 0xFFFFFF, fun _ => .op2_38_09⟩,
    ⟨0x0F380A, 0xFFFFFF, fun _ => .op2_38_0A⟩,
    ⟨0x0F380B, 0xFFFFFF, fun _ => .op2_38_0B⟩ ]

/-- The member rows of `0F 3A` (R174). -/
def w3aRows : List Row :=
  [ ⟨0x0F3A08, 0xFFFFFF, fun _ => .op2_3A_08⟩,
    ⟨0x0F3A09, 0xFFFFFF, fun _ => .op2_3A_09⟩,
    ⟨0x0F3A0A, 0xFFFFFF, fun _ => .op2_3A_0A⟩,
    ⟨0x0F3A0B, 0xFFFFFF, fun _ => .op2_3A_0B⟩,
    ⟨0x0F3A0C, 0xFFFFFF, fun _ => .op2_3A_0C⟩,
    ⟨0x0F3A0D, 0xFFFFFF, fun _ => .op2_3A_0D⟩,
    ⟨0x0F3A0E, 0xFFFFFF, fun _ => .op2_3A_0E⟩,
    ⟨0x0F3A0F, 0xFFFFFF, fun _ => .op2_3A_0F⟩,
    ⟨0x0F3A14, 0xFFFFFF, fun _ => .op2_3A_14⟩,
    ⟨0x0F3A15, 0xFFFFFF, fun _ => .op2_3A_15⟩,
    ⟨0x0F3A16, 0xFFFFFF, fun _ => .op2_3A_16⟩,
    ⟨0x0F3A17, 0xFFFFFF, fun _ => .op2_3A_17⟩,
    ⟨0x0F3A20, 0xFFFFFF, fun _ => .op2_3A_20⟩,
    ⟨0x0F3A21, 0xFFFFFF, fun _ => .op2_3A_21⟩,
    ⟨0x0F3A22, 0xFFFFFF, fun _ => .op2_3A_22⟩,
    ⟨0x0F3A40, 0xFFFFFF, fun _ => .op2_3A_40⟩,
    ⟨0x0F3A41, 0xFFFFFF, fun _ => .op2_3A_41⟩,
    ⟨0x0F3A42, 0xFFFFFF, fun _ => .op2_3A_42⟩,
    ⟨0x0F3A44, 0xFFFFFF, fun _ => .op2_3A_44⟩,
    ⟨0x0F3A60, 0xFFFFFF, fun _ => .op2_3A_60⟩,
    ⟨0x0F3A61, 0xFFFFFF, fun _ => .op2_3A_61⟩,
    ⟨0x0F3A62, 0xFFFFFF, fun _ => .op2_3A_62⟩,
    ⟨0x0F3A63, 0xFFFFFF, fun _ => .op2_3A_63⟩,
    ⟨0x0F3ADF, 0xFFFFFF, fun _ => .op2_3A_DF⟩ ]

/-- The first row that the pattern value selects. -/
def findRow : List Row → Nat → Option Instr
  | [], _ => none
  | r :: rs, v => if v &&& r.mask = r.pat then some (r.build v) else findRow rs v

/-- A value of pattern bytes in stream order, first byte most significant (R85). -/
def patternValue : List Byte → Nat
  | [] => 0
  | b :: bs => b.toNat * 256 ^ bs.length + patternValue bs

/-- The lookup of the byte at the cursor in the active table (R100, R193). -/
def decodeEntry (esc : Bool) (b : Byte) : Decoded :=
  match (if esc then findRow t2Rows (patternValue [0x0F#8, b]) else findRow t1Rows (patternValue [b])) with
  | some i => .instr i
  | none => .reject .noEntry

open Machine in
/-- The resolver's rows of the escaped opcodes (R172 to R174, R177): the arm is chosen by the opcode byte, the
row by the second byte's place in the whitelists. -/
def decodeEscaped (op b2 : Byte) : Decoded :=
  if op = 0x01#8 then
    .instr (if b2 ∈ machineConfig.w01 then .op2_01_inW01 b2 else .op2_01_other b2)
  else if op = 0x38#8 then
    match (if b2 ∈ machineConfig.w38 then findRow w38Rows (patternValue [0x0F#8, op, b2]) else none) with
    | some i => .instr i
    | none => .instr (.op2_38_other b2)
  else if op = 0x3A#8 then
    match (if b2 ∈ machineConfig.w3aI8 then findRow w3aRows (patternValue [0x0F#8, op, b2]) else none) with
    | some i => .instr i
    | none => .instr (if b2 ∈ machineConfig.w3aNI then .op2_3A_inW3A_NI b2 else .op2_3A_other b2)
  else .reject .noArm

/-- The resolver's rows of the unescaped opcodes (R175, R176, R177). -/
def decodeUnescaped (op b2 : Byte) : Decoded :=
  match findRow regRows (patternValue [op, b2]) with
  | some i => .instr i
  | none => .reject .noArm

/-- The decoder: what stands at the cursor, `esc` saying which table is active (R100) and `resolving` that its
entry was flagged `multi` (R199).  Total on any bytes; bytes beyond the pattern are not looked at. -/
def decode (esc resolving : Bool) : List Byte → Decoded
  | [] => .reject .noByte
  | b :: rest =>
    if resolving then
      match rest with
      | [] => .reject .noSecondByte
      | b2 :: _ => if esc then decodeEscaped b b2 else decodeUnescaped b b2
    else decodeEntry esc b

/-- Where a whole pattern (the escape shown, R85) is read: the two arguments of `decode` and the bytes at the
cursor. -/
def patternSite : List Byte → Option (Bool × Bool × List Byte)
  | [b] => some (false, false, [b])
  | [a, b] => if a = 0x0F#8 then some (true, false, [b]) else some (false, true, [a, b])
  | [a, b, d] => if a = 0x0F#8 then some (true, true, [b, d]) else none
  | _ => none

/-- The decoder on a whole pattern. -/
def decodePattern (bs : List Byte) : Option Instr :=
  match patternSite bs with
  | none => none
  | some (esc, resolving, at_) =>
    match decode esc resolving at_ with
    | .instr i => some i
    | .reject _ => none

/-- The `k` bytes of a word in stream order, the first byte the most significant: the numbering of
`spec/opcode_table.json` (R85; assumption 5). -/
def wordBytes : Nat → Nat → List Byte
  | 0, _ => []
  | k + 1, w => BitVec.ofNat 8 (w / 256 ^ k) :: wordBytes k w

/-- The instruction the decoder reads from a row's word. -/
def decodeTableWord (nbits w : Nat) : Option Instr := decodePattern (wordBytes (nbits / 8) w)

/-! ### The encoder -/

/-- A ModRM byte from its fields (R71). -/
def modrmByte (mod : BitVec 2) (reg rm : BitVec 3) : Byte := mod ++ reg ++ rm

/-- The pattern bytes of an instruction in stream order, the escape shown (R85). -/
def encode : Instr → List Byte
  | .op1_00_03 lo => [0x00#8 + lo.setWidth 8]
  | .op1_04 => [0x04#8]
  | .op1_05 => [0x05#8]
  | .op1_06_07 lo => [0x06#8 + lo.setWidth 8]
  | .op1_08_0B lo => [0x08#8 + lo.setWidth 8]
  | .op1_0C => [0x0C#8]
  | .op1_0D => [0x0D#8]
  | .op1_0E => [0x0E#8]
  | .op1_0F => [0x0F#8]
  | .op1_10_13 lo => [0x10#8 + lo.setWidth 8]
  | .op1_14 => [0x14#8]
  | .op1_15 => [0x15#8]
  | .op1_16_17 lo => [0x16#8 + lo.setWidth 8]
  | .op1_18_1B lo => [0x18#8 + lo.setWidth 8]
  | .op1_1C => [0x1C#8]
  | .op1_1D => [0x1D#8]
  | .op1_1E_1F lo => [0x1E#8 + lo.setWidth 8]
  | .op1_20_23 lo => [0x20#8 + lo.setWidth 8]
  | .op1_24 => [0x24#8]
  | .op1_25 => [0x25#8]
  | .op1_26 => [0x26#8]
  | .op1_27 => [0x27#8]
  | .op1_28_2B lo => [0x28#8 + lo.setWidth 8]
  | .op1_2C => [0x2C#8]
  | .op1_2D => [0x2D#8]
  | .op1_2E => [0x2E#8]
  | .op1_2F => [0x2F#8]
  | .op1_30_33 lo => [0x30#8 + lo.setWidth 8]
  | .op1_34 => [0x34#8]
  | .op1_35 => [0x35#8]
  | .op1_36 => [0x36#8]
  | .op1_37 => [0x37#8]
  | .op1_38_3B lo => [0x38#8 + lo.setWidth 8]
  | .op1_3C => [0x3C#8]
  | .op1_3D => [0x3D#8]
  | .op1_3E => [0x3E#8]
  | .op1_3F => [0x3F#8]
  | .op1_40_47 lo => [0x40#8 + lo.setWidth 8]
  | .op1_48_4F lo => [0x48#8 + lo.setWidth 8]
  | .op1_50_57 lo => [0x50#8 + lo.setWidth 8]
  | .op1_58_5F lo => [0x58#8 + lo.setWidth 8]
  | .op1_60_61 lo => [0x60#8 + lo.setWidth 8]
  | .op1_62 => [0x62#8]
  | .op1_63 => [0x63#8]
  | .op1_64_65 lo => [0x64#8 + lo.setWidth 8]
  | .op1_66 => [0x66#8]
  | .op1_67 => [0x67#8]
  | .op1_68 => [0x68#8]
  | .op1_69 => [0x69#8]
  | .op1_6A => [0x6A#8]
  | .op1_6B => [0x6B#8]
  | .op1_6C_6F lo => [0x6C#8 + lo.setWidth 8]
  | .op1_70_7F lo => [0x70#8 + lo.setWidth 8]
  | .op1_80 => [0x80#8]
  | .op1_81 => [0x81#8]
  | .op1_82 => [0x82#8]
  | .op1_83 => [0x83#8]
  | .op1_84_87 lo => [0x84#8 + lo.setWidth 8]
  | .op1_88 => [0x88#8]
  | .op1_89 => [0x89#8]
  | .op1_8A_8B lo => [0x8A#8 + lo.setWidth 8]
  | .op1_8C_8D lo => [0x8C#8 + lo.setWidth 8]
  | .op1_8E => [0x8E#8]
  | .op1_8F => [0x8F#8]
  | .op1_90 => [0x90#8]
  | .op1_91 => [0x91#8]
  | .op1_92_93 lo => [0x92#8 + lo.setWidth 8]
  | .op1_94_97 lo => [0x94#8 + lo.setWidth 8]
  | .op1_98_99 lo => [0x98#8 + lo.setWidth 8]
  | .op1_9A => [0x9A#8]
  | .op1_9B => [0x9B#8]
  | .op1_9C_9F lo => [0x9C#8 + lo.setWidth 8]
  | .op1_A0_A3 lo => [0xA0#8 + lo.setWidth 8]
  | .op1_A4_A7 lo => [0xA4#8 + lo.setWidth 8]
  | .op1_A8 => [0xA8#8]
  | .op1_A9 => [0xA9#8]
  | .op1_AA_AB lo => [0xAA#8 + lo.setWidth 8]
  | .op1_AC_AF lo => [0xAC#8 + lo.setWidth 8]
  | .op1_B0_B7 lo => [0xB0#8 + lo.setWidth 8]
  | .op1_B8_BF lo => [0xB8#8 + lo.setWidth 8]
  | .op1_C0_C1 lo => [0xC0#8 + lo.setWidth 8]
  | .op1_C2 => [0xC2#8]
  | .op1_C3 => [0xC3#8]
  | .op1_C4_C5 lo => [0xC4#8 + lo.setWidth 8]
  | .op1_C6 => [0xC6#8]
  | .op1_C7 => [0xC7#8]
  | .op1_C8 => [0xC8#8]
  | .op1_C9 => [0xC9#8]
  | .op1_CA => [0xCA#8]
  | .op1_CB => [0xCB#8]
  | .op1_CC => [0xCC#8]
  | .op1_CD => [0xCD#8]
  | .op1_CE => [0xCE#8]
  | .op1_CF => [0xCF#8]
  | .op1_D0_D3 lo => [0xD0#8 + lo.setWidth 8]
  | .op1_D4_D5 lo => [0xD4#8 + lo.setWidth 8]
  | .op1_D6 => [0xD6#8]
  | .op1_D7 => [0xD7#8]
  | .op1_D8_DF lo => [0xD8#8 + lo.setWidth 8]
  | .op1_E0_E3 lo => [0xE0#8 + lo.setWidth 8]
  | .op1_E4_E7 lo => [0xE4#8 + lo.setWidth 8]
  | .op1_E8_E9 lo => [0xE8#8 + lo.setWidth 8]
  | .op1_EA => [0xEA#8]
  | .op1_EB => [0xEB#8]
  | .op1_EC_EF lo => [0xEC#8 + lo.setWidth 8]
  | .op1_F0 => [0xF0#8]
  | .op1_F1 => [0xF1#8]
  | .op1_F2_F3 lo => [0xF2#8 + lo.setWidth 8]
  | .op1_F4_F5 lo => [0xF4#8 + lo.setWidth 8]
  | .op1_F6 => [0xF6#8]
  | .op1_F7 => [0xF7#8]
  | .op1_F8_FB lo => [0xF8#8 + lo.setWidth 8]
  | .op1_FC_FD lo => [0xFC#8 + lo.setWidth 8]
  | .op1_FE => [0xFE#8]
  | .op1_FF => [0xFF#8]
  | .op1_F6_r0 mod rm => [0xF6#8, modrmByte mod 0 rm]
  | .op1_F6_r1 mod rm => [0xF6#8, modrmByte mod 1 rm]
  | .op1_F6_r2 mod rm => [0xF6#8, modrmByte mod 2 rm]
  | .op1_F6_r3 mod rm => [0xF6#8, modrmByte mod 3 rm]
  | .op1_F6_r4 mod rm => [0xF6#8, modrmByte mod 4 rm]
  | .op1_F6_r5 mod rm => [0xF6#8, modrmByte mod 5 rm]
  | .op1_F6_r6 mod rm => [0xF6#8, modrmByte mod 6 rm]
  | .op1_F6_r7 mod rm => [0xF6#8, modrmByte mod 7 rm]
  | .op1_F7_r0 mod rm => [0xF7#8, modrmByte mod 0 rm]
  | .op1_F7_r1 mod rm => [0xF7#8, modrmByte mod 1 rm]
  | .op1_F7_r2 mod rm => [0xF7#8, modrmByte mod 2 rm]
  | .op1_F7_r3 mod rm => [0xF7#8, modrmByte mod 3 rm]
  | .op1_F7_r4 mod rm => [0xF7#8, modrmByte mod 4 rm]
  | .op1_F7_r5 mod rm => [0xF7#8, modrmByte mod 5 rm]
  | .op1_F7_r6 mod rm => [0xF7#8, modrmByte mod 6 rm]
  | .op1_F7_r7 mod rm => [0xF7#8, modrmByte mod 7 rm]
  | .op2_01_inW01 op2 => [0x0F#8, 0x01#8, op2]
  | .op2_01_other op2 => [0x0F#8, 0x01#8, op2]
  | .op2_38_other op2 => [0x0F#8, 0x38#8, op2]
  | .op2_3A_inW3A_NI op2 => [0x0F#8, 0x3A#8, op2]
  | .op2_3A_other op2 => [0x0F#8, 0x3A#8, op2]
  | .op2_00 => [0x0F#8, 0x00#8]
  | .op2_01 => [0x0F#8, 0x01#8]
  | .op2_02_03 lo => [0x0F#8, 0x02#8 + lo.setWidth 8]
  | .op2_04 => [0x0F#8, 0x04#8]
  | .op2_05 => [0x0F#8, 0x05#8]
  | .op2_06_07 lo => [0x0F#8, 0x06#8 + lo.setWidth 8]
  | .op2_08_09 lo => [0x0F#8, 0x08#8 + lo.setWidth 8]
  | .op2_0A => [0x0F#8, 0x0A#8]
  | .op2_0B => [0x0F#8, 0x0B#8]
  | .op2_0C => [0x0F#8, 0x0C#8]
  | .op2_0D => [0x0F#8, 0x0D#8]
  | .op2_0E_0F lo => [0x0F#8, 0x0E#8 + lo.setWidth 8]
  | .op2_10_17 lo => [0x0F#8, 0x10#8 + lo.setWidth 8]
  | .op2_18_1B lo => [0x0F#8, 0x18#8 + lo.setWidth 8]
  | .op2_1C_1D lo => [0x0F#8, 0x1C#8 + lo.setWidth 8]
  | .op2_1E => [0x0F#8, 0x1E#8]
  | .op2_1F => [0x0F#8, 0x1F#8]
  | .op2_20_23 lo => [0x0F#8, 0x20#8 + lo.setWidth 8]
  | .op2_24_27 lo => [0x0F#8, 0x24#8 + lo.setWidth 8]
  | .op2_28_2F lo => [0x0F#8, 0x28#8 + lo.setWidth 8]
  | .op2_30_33 lo => [0x0F#8, 0x30#8 + lo.setWidth 8]
  | .op2_34_35 lo => [0x0F#8, 0x34#8 + lo.setWidth 8]
  | .op2_36 => [0x0F#8, 0x36#8]
  | .op2_37 => [0x0F#8, 0x37#8]
  | .op2_38 => [0x0F#8, 0x38#8]
  | .op2_39 => [0x0F#8, 0x39#8]
  | .op2_3A => [0x0F#8, 0x3A#8]
  | .op2_3B => [0x0F#8, 0x3B#8]
  | .op2_3C_3F lo => [0x0F#8, 0x3C#8 + lo.setWidth 8]
  | .op2_40_4F lo => [0x0F#8, 0x40#8 + lo.setWidth 8]
  | .op2_50_5F lo => [0x0F#8, 0x50#8 + lo.setWidth 8]
  | .op2_60_6F lo => [0x0F#8, 0x60#8 + lo.setWidth 8]
  | .op2_70 => [0x0F#8, 0x70#8]
  | .op2_71 => [0x0F#8, 0x71#8]
  | .op2_72_73 lo => [0x0F#8, 0x72#8 + lo.setWidth 8]
  | .op2_74_75 lo => [0x0F#8, 0x74#8 + lo.setWidth 8]
  | .op2_76 => [0x0F#8, 0x76#8]
  | .op2_77 => [0x0F#8, 0x77#8]
  | .op2_78_79 lo => [0x0F#8, 0x78#8 + lo.setWidth 8]
  | .op2_7A_7B lo => [0x0F#8, 0x7A#8 + lo.setWidth 8]
  | .op2_7C_7F lo => [0x0F#8, 0x7C#8 + lo.setWidth 8]
  | .op2_80_8F lo => [0x0F#8, 0x80#8 + lo.setWidth 8]
  | .op2_90_9F lo => [0x0F#8, 0x90#8 + lo.setWidth 8]
  | .op2_A0_A1 lo => [0x0F#8, 0xA0#8 + lo.setWidth 8]
  | .op2_A2 => [0x0F#8, 0xA2#8]
  | .op2_A3 => [0x0F#8, 0xA3#8]
  | .op2_A4 => [0x0F#8, 0xA4#8]
  | .op2_A5 => [0x0F#8, 0xA5#8]
  | .op2_A6_A7 lo => [0x0F#8, 0xA6#8 + lo.setWidth 8]
  | .op2_A8_A9 lo => [0x0F#8, 0xA8#8 + lo.setWidth 8]
  | .op2_AA => [0x0F#8, 0xAA#8]
  | .op2_AB => [0x0F#8, 0xAB#8]
  | .op2_AC => [0x0F#8, 0xAC#8]
  | .op2_AD => [0x0F#8, 0xAD#8]
  | .op2_AE => [0x0F#8, 0xAE#8]
  | .op2_AF => [0x0F#8, 0xAF#8]
  | .op2_B0_B7 lo => [0x0F#8, 0xB0#8 + lo.setWidth 8]
  | .op2_B8 => [0x0F#8, 0xB8#8]
  | .op2_B9 => [0x0F#8, 0xB9#8]
  | .op2_BA => [0x0F#8, 0xBA#8]
  | .op2_BB => [0x0F#8, 0xBB#8]
  | .op2_BC_BF lo => [0x0F#8, 0xBC#8 + lo.setWidth 8]
  | .op2_C0_C1 lo => [0x0F#8, 0xC0#8 + lo.setWidth 8]
  | .op2_C2 => [0x0F#8, 0xC2#8]
  | .op2_C3 => [0x0F#8, 0xC3#8]
  | .op2_C4_C5 lo => [0x0F#8, 0xC4#8 + lo.setWidth 8]
  | .op2_C6 => [0x0F#8, 0xC6#8]
  | .op2_C7 => [0x0F#8, 0xC7#8]
  | .op2_C8_CF lo => [0x0F#8, 0xC8#8 + lo.setWidth 8]
  | .op2_D0_DF lo => [0x0F#8, 0xD0#8 + lo.setWidth 8]
  | .op2_E0_EF lo => [0x0F#8, 0xE0#8 + lo.setWidth 8]
  | .op2_F0_F7 lo => [0x0F#8, 0xF0#8 + lo.setWidth 8]
  | .op2_F8_FB lo => [0x0F#8, 0xF8#8 + lo.setWidth 8]
  | .op2_FC_FD lo => [0x0F#8, 0xFC#8 + lo.setWidth 8]
  | .op2_FE => [0x0F#8, 0xFE#8]
  | .op2_FF => [0x0F#8, 0xFF#8]
  | .op2_38_00 => [0x0F#8, 0x38#8, 0x00#8]
  | .op2_38_01 => [0x0F#8, 0x38#8, 0x01#8]
  | .op2_38_02 => [0x0F#8, 0x38#8, 0x02#8]
  | .op2_38_03 => [0x0F#8, 0x38#8, 0x03#8]
  | .op2_38_04 => [0x0F#8, 0x38#8, 0x04#8]
  | .op2_38_05 => [0x0F#8, 0x38#8, 0x05#8]
  | .op2_38_06 => [0x0F#8, 0x38#8, 0x06#8]
  | .op2_38_07 => [0x0F#8, 0x38#8, 0x07#8]
  | .op2_38_08 => [0x0F#8, 0x38#8, 0x08#8]
  | .op2_38_09 => [0x0F#8, 0x38#8, 0x09#8]
  | .op2_38_0A => [0x0F#8, 0x38#8, 0x0A#8]
  | .op2_38_0B => [0x0F#8, 0x38#8, 0x0B#8]
  | .op2_3A_08 => [0x0F#8, 0x3A#8, 0x08#8]
  | .op2_3A_09 => [0x0F#8, 0x3A#8, 0x09#8]
  | .op2_3A_0A => [0x0F#8, 0x3A#8, 0x0A#8]
  | .op2_3A_0B => [0x0F#8, 0x3A#8, 0x0B#8]
  | .op2_3A_0C => [0x0F#8, 0x3A#8, 0x0C#8]
  | .op2_3A_0D => [0x0F#8, 0x3A#8, 0x0D#8]
  | .op2_3A_0E => [0x0F#8, 0x3A#8, 0x0E#8]
  | .op2_3A_0F => [0x0F#8, 0x3A#8, 0x0F#8]
  | .op2_3A_14 => [0x0F#8, 0x3A#8, 0x14#8]
  | .op2_3A_15 => [0x0F#8, 0x3A#8, 0x15#8]
  | .op2_3A_16 => [0x0F#8, 0x3A#8, 0x16#8]
  | .op2_3A_17 => [0x0F#8, 0x3A#8, 0x17#8]
  | .op2_3A_20 => [0x0F#8, 0x3A#8, 0x20#8]
  | .op2_3A_21 => [0x0F#8, 0x3A#8, 0x21#8]
  | .op2_3A_22 => [0x0F#8, 0x3A#8, 0x22#8]
  | .op2_3A_40 => [0x0F#8, 0x3A#8, 0x40#8]
  | .op2_3A_41 => [0x0F#8, 0x3A#8, 0x41#8]
  | .op2_3A_42 => [0x0F#8, 0x3A#8, 0x42#8]
  | .op2_3A_44 => [0x0F#8, 0x3A#8, 0x44#8]
  | .op2_3A_60 => [0x0F#8, 0x3A#8, 0x60#8]
  | .op2_3A_61 => [0x0F#8, 0x3A#8, 0x61#8]
  | .op2_3A_62 => [0x0F#8, 0x3A#8, 0x62#8]
  | .op2_3A_63 => [0x0F#8, 0x3A#8, 0x63#8]
  | .op2_3A_DF => [0x0F#8, 0x3A#8, 0xDF#8]

/-- The bytes of `encode` that stand at the cursor when the row is decoded: all but the escape (R70, R85). -/
def encodeAtCursor (i : Instr) : List Byte :=
  match patternSite (encode i) with
  | some (_, _, at_) => at_
  | none => []

/-- Whether the row is one of `T2` (R85). -/
def Instr.escaped (i : Instr) : Bool :=
  match patternSite (encode i) with
  | some (esc, _, _) => esc
  | none => false

/-- Whether the row gives an entry after special-case resolution (R85). -/
def Instr.resolved (i : Instr) : Bool :=
  match patternSite (encode i) with
  | some (_, resolving, _) => resolving
  | none => false

/-- The `fields` of the instruction's row in `spec/opcode_table.json` (R85). -/
def Instr.fields : Instr → RowFields
  | .op1_00_03 _ => ⟨⟨.MR, false, false⟩, 0⟩
  | .op1_04 => ⟨⟨.AI8, false, false⟩, 0⟩
  | .op1_05 => ⟨⟨.AI, false, false⟩, 0⟩
  | .op1_06_07 _ => ⟨⟨.INV, false, false⟩, 0⟩
  | .op1_08_0B _ => ⟨⟨.MR, false, false⟩, 0⟩
  | .op1_0C => ⟨⟨.AI8, false, false⟩, 0⟩
  | .op1_0D => ⟨⟨.AI, false, false⟩, 0⟩
  | .op1_0E => ⟨⟨.INV, false, false⟩, 0⟩
  | .op1_0F => ⟨⟨.PFX, false, false⟩, 0⟩
  | .op1_10_13 _ => ⟨⟨.MR, false, false⟩, 0⟩
  | .op1_14 => ⟨⟨.AI8, false, false⟩, 0⟩
  | .op1_15 => ⟨⟨.AI, false, false⟩, 0⟩
  | .op1_16_17 _ => ⟨⟨.INV, false, false⟩, 0⟩
  | .op1_18_1B _ => ⟨⟨.MR, false, false⟩, 0⟩
  | .op1_1C => ⟨⟨.AI8, false, false⟩, 0⟩
  | .op1_1D => ⟨⟨.AI, false, false⟩, 0⟩
  | .op1_1E_1F _ => ⟨⟨.INV, false, false⟩, 0⟩
  | .op1_20_23 _ => ⟨⟨.MR, false, false⟩, 0⟩
  | .op1_24 => ⟨⟨.AI8, false, false⟩, 0⟩
  | .op1_25 => ⟨⟨.AI, false, false⟩, 0⟩
  | .op1_26 => ⟨⟨.PFX, false, false⟩, 0⟩
  | .op1_27 => ⟨⟨.INV, false, false⟩, 0⟩
  | .op1_28_2B _ => ⟨⟨.MR, false, false⟩, 0⟩
  | .op1_2C => ⟨⟨.AI8, false, false⟩, 0⟩
  | .op1_2D => ⟨⟨.AI, false, false⟩, 0⟩
  | .op1_2E => ⟨⟨.PFX, false, false⟩, 0⟩
  | .op1_2F => ⟨⟨.INV, false, false⟩, 0⟩
  | .op1_30_33 _ => ⟨⟨.MR, false, false⟩, 0⟩
  | .op1_34 => ⟨⟨.AI8, false, false⟩, 0⟩
  | .op1_35 => ⟨⟨.AI, false, false⟩, 0⟩
  | .op1_36 => ⟨⟨.PFX, false, false⟩, 0⟩
  | .op1_37 => ⟨⟨.INV, false, false⟩, 0⟩
  | .op1_38_3B _ => ⟨⟨.MR, false, false⟩, 0⟩
  | .op1_3C => ⟨⟨.AI8, false, false⟩, 0⟩
  | .op1_3D => ⟨⟨.AI, false, false⟩, 0⟩
  | .op1_3E => ⟨⟨.PFX, false, false⟩, 0⟩
  | .op1_3F => ⟨⟨.INV, false, false⟩, 0⟩
  | .op1_40_47 _ => ⟨⟨.PFX, false, false⟩, 0⟩
  | .op1_48_4F _ => ⟨⟨.PFX, false, false⟩, 0⟩
  | .op1_50_57 _ => ⟨⟨.O, false, false⟩, 0⟩
  | .op1_58_5F _ => ⟨⟨.O, false, false⟩, 0⟩
  | .op1_60_61 _ => ⟨⟨.INV, false, false⟩, 0⟩
  | .op1_62 => ⟨⟨.INV, false, false⟩, 0⟩
  | .op1_63 => ⟨⟨.MR, false, false⟩, 0⟩
  | .op1_64_65 _ => ⟨⟨.PFX, false, false⟩, 0⟩
  | .op1_66 => ⟨⟨.PFX, false, false⟩, 0⟩
  | .op1_67 => ⟨⟨.PFX, false, false⟩, 0⟩
  | .op1_68 => ⟨⟨.AI, false, false⟩, 0⟩
  | .op1_69 => ⟨⟨.MI, false, false⟩, 0⟩
  | .op1_6A => ⟨⟨.AI8, false, false⟩, 0⟩
  | .op1_6B => ⟨⟨.MI8, false, false⟩, 0⟩
  | .op1_6C_6F _ => ⟨⟨.NP, false, false⟩, 0⟩
  | .op1_70_7F _ => ⟨⟨.AI8, false, false⟩, 0⟩
  | .op1_80 => ⟨⟨.MI8, false, false⟩, 0⟩
  | .op1_81 => ⟨⟨.MI, false, false⟩, 0⟩
  | .op1_82 => ⟨⟨.INV, false, false⟩, 0⟩
  | .op1_83 => ⟨⟨.MI8, false, false⟩, 0⟩
  | .op1_84_87 _ => ⟨⟨.MR, false, false⟩, 0⟩
  | .op1_88 => ⟨⟨.MR, false, false⟩, 0⟩
  | .op1_89 => ⟨⟨.MR, false, false⟩, 0⟩
  | .op1_8A_8B _ => ⟨⟨.MR, false, false⟩, 0⟩
  | .op1_8C_8D _ => ⟨⟨.MR, false, false⟩, 0⟩
  | .op1_8E => ⟨⟨.MR, false, false⟩, 0⟩
  | .op1_8F => ⟨⟨.M, false, false⟩, 0⟩
  | .op1_90 => ⟨⟨.NP, false, false⟩, 0⟩
  | .op1_91 => ⟨⟨.O, false, false⟩, 0⟩
  | .op1_92_93 _ => ⟨⟨.O, false, false⟩, 0⟩
  | .op1_94_97 _ => ⟨⟨.O, false, false⟩, 0⟩
  | .op1_98_99 _ => ⟨⟨.NP, false, false⟩, 0⟩
  | .op1_9A => ⟨⟨.INV, false, false⟩, 0⟩
  | .op1_9B => ⟨⟨.NP, false, false⟩, 0⟩
  | .op1_9C_9F _ => ⟨⟨.NP, false, false⟩, 0⟩
  | .op1_A0_A3 _ => ⟨⟨.INV, false, false⟩, 0⟩
  | .op1_A4_A7 _ => ⟨⟨.NP, false, false⟩, 0⟩
  | .op1_A8 => ⟨⟨.AI8, false, false⟩, 0⟩
  | .op1_A9 => ⟨⟨.AI, false, false⟩, 0⟩
  | .op1_AA_AB _ => ⟨⟨.NP, false, false⟩, 0⟩
  | .op1_AC_AF _ => ⟨⟨.NP, false, false⟩, 0⟩
  | .op1_B0_B7 _ => ⟨⟨.AI8, false, false⟩, 0⟩
  | .op1_B8_BF _ => ⟨⟨.AI, true, false⟩, 0⟩
  | .op1_C0_C1 _ => ⟨⟨.MI8, false, false⟩, 0⟩
  | .op1_C2 => ⟨⟨.I16, false, false⟩, 0⟩
  | .op1_C3 => ⟨⟨.NP, false, false⟩, 0⟩
  | .op1_C4_C5 _ => ⟨⟨.INV, false, false⟩, 0⟩
  | .op1_C6 => ⟨⟨.MI8, false, false⟩, 0⟩
  | .op1_C7 => ⟨⟨.MI, false, false⟩, 0⟩
  | .op1_C8 => ⟨⟨.II, false, false⟩, 0⟩
  | .op1_C9 => ⟨⟨.NP, false, false⟩, 0⟩
  | .op1_CA => ⟨⟨.I16, false, false⟩, 0⟩
  | .op1_CB => ⟨⟨.NP, false, false⟩, 0⟩
  | .op1_CC => ⟨⟨.NP, false, false⟩, 0⟩
  | .op1_CD => ⟨⟨.AI8, false, false⟩, 0⟩
  | .op1_CE => ⟨⟨.INV, false, false⟩, 0⟩
  | .op1_CF => ⟨⟨.NP, false, false⟩, 0⟩
  | .op1_D0_D3 _ => ⟨⟨.M, false, false⟩, 0⟩
  | .op1_D4_D5 _ => ⟨⟨.INV, false, false⟩, 0⟩
  | .op1_D6 => ⟨⟨.INV, false, false⟩, 0⟩
  | .op1_D7 => ⟨⟨.NP, false, false⟩, 0⟩
  | .op1_D8_DF _ => ⟨⟨.M, false, false⟩, 0⟩
  | .op1_E0_E3 _ => ⟨⟨.AI8, false, false⟩, 0⟩
  | .op1_E4_E7 _ => ⟨⟨.AI8, false, false⟩, 0⟩
  | .op1_E8_E9 _ => ⟨⟨.D, false, false⟩, 0⟩
  | .op1_EA => ⟨⟨.INV, false, false⟩, 0⟩
  | .op1_EB => ⟨⟨.AI8, false, false⟩, 0⟩
  | .op1_EC_EF _ => ⟨⟨.NP, false, false⟩, 0⟩
  | .op1_F0 => ⟨⟨.PFX, false, false⟩, 0⟩
  | .op1_F1 => ⟨⟨.NP, false, false⟩, 0⟩
  | .op1_F2_F3 _ => ⟨⟨.PFX, false, false⟩, 0⟩
  | .op1_F4_F5 _ => ⟨⟨.NP, false, false⟩, 0⟩
  | .op1_F6 => ⟨⟨.M, false, true⟩, 0⟩
  | .op1_F7 => ⟨⟨.M, false, true⟩, 0⟩
  | .op1_F8_FB _ => ⟨⟨.NP, false, false⟩, 0⟩
  | .op1_FC_FD _ => ⟨⟨.NP, false, false⟩, 0⟩
  | .op1_FE => ⟨⟨.M, false, false⟩, 0⟩
  | .op1_FF => ⟨⟨.M, false, false⟩, 0⟩
  | .op1_F6_r0 _ _ => ⟨⟨.MI8, false, false⟩, 0⟩
  | .op1_F6_r1 _ _ => ⟨⟨.MI8, false, false⟩, 0⟩
  | .op1_F6_r2 _ _ => ⟨⟨.M, false, false⟩, 0⟩
  | .op1_F6_r3 _ _ => ⟨⟨.M, false, false⟩, 0⟩
  | .op1_F6_r4 _ _ => ⟨⟨.M, false, false⟩, 0⟩
  | .op1_F6_r5 _ _ => ⟨⟨.M, false, false⟩, 0⟩
  | .op1_F6_r6 _ _ => ⟨⟨.M, false, false⟩, 0⟩
  | .op1_F6_r7 _ _ => ⟨⟨.M, false, false⟩, 0⟩
  | .op1_F7_r0 _ _ => ⟨⟨.MI, false, false⟩, 0⟩
  | .op1_F7_r1 _ _ => ⟨⟨.MI, false, false⟩, 0⟩
  | .op1_F7_r2 _ _ => ⟨⟨.M, false, false⟩, 0⟩
  | .op1_F7_r3 _ _ => ⟨⟨.M, false, false⟩, 0⟩
  | .op1_F7_r4 _ _ => ⟨⟨.M, false, false⟩, 0⟩
  | .op1_F7_r5 _ _ => ⟨⟨.M, false, false⟩, 0⟩
  | .op1_F7_r6 _ _ => ⟨⟨.M, false, false⟩, 0⟩
  | .op1_F7_r7 _ _ => ⟨⟨.M, false, false⟩, 0⟩
  | .op2_01_inW01 _ => ⟨⟨.M, false, false⟩, 1⟩
  | .op2_01_other _ => ⟨⟨.INV, false, false⟩, 0⟩
  | .op2_38_other _ => ⟨⟨.INV, false, false⟩, 0⟩
  | .op2_3A_inW3A_NI _ => ⟨⟨.MR, false, false⟩, 1⟩
  | .op2_3A_other _ => ⟨⟨.INV, false, false⟩, 0⟩
  | .op2_00 => ⟨⟨.M, false, false⟩, 0⟩
  | .op2_01 => ⟨⟨.M, false, true⟩, 0⟩
  | .op2_02_03 _ => ⟨⟨.MR, false, false⟩, 0⟩
  | .op2_04 => ⟨⟨.INV, false, false⟩, 0⟩
  | .op2_05 => ⟨⟨.NP, false, false⟩, 0⟩
  | .op2_06_07 _ => ⟨⟨.NP, false, false⟩, 0⟩
  | .op2_08_09 _ => ⟨⟨.NP, false, false⟩, 0⟩
  | .op2_0A => ⟨⟨.INV, false, false⟩, 0⟩
  | .op2_0B => ⟨⟨.NP, false, false⟩, 0⟩
  | .op2_0C => ⟨⟨.INV, false, false⟩, 0⟩
  | .op2_0D => ⟨⟨.M, false, false⟩, 0⟩
  | .op2_0E_0F _ => ⟨⟨.INV, false, false⟩, 0⟩
  | .op2_10_17 _ => ⟨⟨.MR, false, false⟩, 0⟩
  | .op2_18_1B _ => ⟨⟨.M, false, false⟩, 0⟩
  | .op2_1C_1D _ => ⟨⟨.M, false, false⟩, 0⟩
  | .op2_1E => ⟨⟨.M, false, false⟩, 0⟩
  | .op2_1F => ⟨⟨.M, false, false⟩, 0⟩
  | .op2_20_23 _ => ⟨⟨.MR, false, false⟩, 0⟩
  | .op2_24_27 _ => ⟨⟨.INV, false, false⟩, 0⟩
  | .op2_28_2F _ => ⟨⟨.MR, false, false⟩, 0⟩
  | .op2_30_33 _ => ⟨⟨.NP, false, false⟩, 0⟩
  | .op2_34_35 _ => ⟨⟨.NP, false, false⟩, 0⟩
  | .op2_36 => ⟨⟨.INV, false, false⟩, 0⟩
  | .op2_37 => ⟨⟨.NP, false, false⟩, 0⟩
  | .op2_38 => ⟨⟨.MR, false, true⟩, 0⟩
  | .op2_39 => ⟨⟨.INV, false, false⟩, 0⟩
  | .op2_3A => ⟨⟨.MRI8, false, true⟩, 0⟩
  | .op2_3B => ⟨⟨.INV, false, false⟩, 0⟩
  | .op2_3C_3F _ => ⟨⟨.INV, false, false⟩, 0⟩
  | .op2_40_4F _ => ⟨⟨.MR, false, false⟩, 0⟩
  | .op2_50_5F _ => ⟨⟨.MR, false, false⟩, 0⟩
  | .op2_60_6F _ => ⟨⟨.MR, false, false⟩, 0⟩
  | .op2_70 => ⟨⟨.MRI8, false, false⟩, 0⟩
  | .op2_71 => ⟨⟨.MI8, false, false⟩, 0⟩
  | .op2_72_73 _ => ⟨⟨.MI8, false, false⟩, 0⟩
  | .op2_74_75 _ => ⟨⟨.MR, false, false⟩, 0⟩
  | .op2_76 => ⟨⟨.MR, false, false⟩, 0⟩
  | .op2_77 => ⟨⟨.NP, false, false⟩, 0⟩
  | .op2_78_79 _ => ⟨⟨.MR, false, false⟩, 0⟩
  | .op2_7A_7B _ => ⟨⟨.INV, false, false⟩, 0⟩
  | .op2_7C_7F _ => ⟨⟨.MR, false, false⟩, 0⟩
  | .op2_80_8F _ => ⟨⟨.D, false, false⟩, 0⟩
  | .op2_90_9F _ => ⟨⟨.M, false, false⟩, 0⟩
  | .op2_A0_A1 _ => ⟨⟨.NP, false, false⟩, 0⟩
  | .op2_A2 => ⟨⟨.NP, false, false⟩, 0⟩
  | .op2_A3 => ⟨⟨.MR, false, false⟩, 0⟩
  | .op2_A4 => ⟨⟨.MRI8, false, false⟩, 0⟩
  | .op2_A5 => ⟨⟨.MR, false, false⟩, 0⟩
  | .op2_A6_A7 _ => ⟨⟨.INV, false, false⟩, 0⟩
  | .op2_A8_A9 _ => ⟨⟨.NP, false, false⟩, 0⟩
  | .op2_AA => ⟨⟨.NP, false, false⟩, 0⟩
  | .op2_AB => ⟨⟨.MR, false, false⟩, 0⟩
  | .op2_AC => ⟨⟨.MRI8, false, false⟩, 0⟩
  | .op2_AD => ⟨⟨.MR, false, false⟩, 0⟩
  | .op2_AE => ⟨⟨.M, false, false⟩, 0⟩
  | .op2_AF => ⟨⟨.MR, false, false⟩, 0⟩
  | .op2_B0_B7 _ => ⟨⟨.MR, false, false⟩, 0⟩
  | .op2_B8 => ⟨⟨.MR, false, false⟩, 0⟩
  | .op2_B9 => ⟨⟨.M, false, false⟩, 0⟩
  | .op2_BA => ⟨⟨.MI8, false, false⟩, 0⟩
  | .op2_BB => ⟨⟨.MR, false, false⟩, 0⟩
  | .op2_BC_BF _ => ⟨⟨.MR, false, false⟩, 0⟩
  | .op2_C0_C1 _ => ⟨⟨.MR, false, false⟩, 0⟩
  | .op2_C2 => ⟨⟨.MRI8, false, false⟩, 0⟩
  | .op2_C3 => ⟨⟨.MR, false, false⟩, 0⟩
  | .op2_C4_C5 _ => ⟨⟨.MRI8, false, false⟩, 0⟩
  | .op2_C6 => ⟨⟨.MRI8, false, false⟩, 0⟩
  | .op2_C7 => ⟨⟨.M, false, false⟩, 0⟩
  | .op2_C8_CF _ => ⟨⟨.O, false, false⟩, 0⟩
  | .op2_D0_DF _ => ⟨⟨.MR, false, false⟩, 0⟩
  | .op2_E0_EF _ => ⟨⟨.MR, false, false⟩, 0⟩
  | .op2_F0_F7 _ => ⟨⟨.MR, false, false⟩, 0⟩
  | .op2_F8_FB _ => ⟨⟨.MR, false, false⟩, 0⟩
  | .op2_FC_FD _ => ⟨⟨.MR, false, false⟩, 0⟩
  | .op2_FE => ⟨⟨.MR, false, false⟩, 0⟩
  | .op2_FF => ⟨⟨.INV, false, false⟩, 0⟩
  | .op2_38_00 => ⟨⟨.MR, false, false⟩, 1⟩
  | .op2_38_01 => ⟨⟨.MR, false, false⟩, 1⟩
  | .op2_38_02 => ⟨⟨.MR, false, false⟩, 1⟩
  | .op2_38_03 => ⟨⟨.MR, false, false⟩, 1⟩
  | .op2_38_04 => ⟨⟨.MR, false, false⟩, 1⟩
  | .op2_38_05 => ⟨⟨.MR, false, false⟩, 1⟩
  | .op2_38_06 => ⟨⟨.MR, false, false⟩, 1⟩
  | .op2_38_07 => ⟨⟨.MR, false, false⟩, 1⟩
  | .op2_38_08 => ⟨⟨.MR, false, false⟩, 1⟩
  | .op2_38_09 => ⟨⟨.MR, false, false⟩, 1⟩
  | .op2_38_0A => ⟨⟨.MR, false, false⟩, 1⟩
  | .op2_38_0B => ⟨⟨.MR, false, false⟩, 1⟩
  | .op2_3A_08 => ⟨⟨.MRI8, false, false⟩, 1⟩
  | .op2_3A_09 => ⟨⟨.MRI8, false, false⟩, 1⟩
  | .op2_3A_0A => ⟨⟨.MRI8, false, false⟩, 1⟩
  | .op2_3A_0B => ⟨⟨.MRI8, false, false⟩, 1⟩
  | .op2_3A_0C => ⟨⟨.MRI8, false, false⟩, 1⟩
  | .op2_3A_0D => ⟨⟨.MRI8, false, false⟩, 1⟩
  | .op2_3A_0E => ⟨⟨.MRI8, false, false⟩, 1⟩
  | .op2_3A_0F => ⟨⟨.MRI8, false, false⟩, 1⟩
  | .op2_3A_14 => ⟨⟨.MRI8, false, false⟩, 1⟩
  | .op2_3A_15 => ⟨⟨.MRI8, false, false⟩, 1⟩
  | .op2_3A_16 => ⟨⟨.MRI8, false, false⟩, 1⟩
  | .op2_3A_17 => ⟨⟨.MRI8, false, false⟩, 1⟩
  | .op2_3A_20 => ⟨⟨.MRI8, false, false⟩, 1⟩
  | .op2_3A_21 => ⟨⟨.MRI8, false, false⟩, 1⟩
  | .op2_3A_22 => ⟨⟨.MRI8, false, false⟩, 1⟩
  | .op2_3A_40 => ⟨⟨.MRI8, false, false⟩, 1⟩
  | .op2_3A_41 => ⟨⟨.MRI8, false, false⟩, 1⟩
  | .op2_3A_42 => ⟨⟨.MRI8, false, false⟩, 1⟩
  | .op2_3A_44 => ⟨⟨.MRI8, false, false⟩, 1⟩
  | .op2_3A_60 => ⟨⟨.MRI8, false, false⟩, 1⟩
  | .op2_3A_61 => ⟨⟨.MRI8, false, false⟩, 1⟩
  | .op2_3A_62 => ⟨⟨.MRI8, false, false⟩, 1⟩
  | .op2_3A_63 => ⟨⟨.MRI8, false, false⟩, 1⟩
  | .op2_3A_DF => ⟨⟨.MRI8, false, false⟩, 1⟩

end Sys2Proof
end

