-- ==== Sys2Proof/Machine/Fetch.lean ====
section
/-! DEFINITION. Fetching: which bytes the block examines at the cursor and what the decoder makes of them (R53, R55,
R190, R193, R199), what a decoder's rejection means to the block, and how a word is placed where the next step
fetches. -/

namespace Sys2Proof.Machine

/-- Whether the block is resolving a `multi` entry (R199). -/
def State.resolving (s : State) : Bool := decide (s.phase = .lengthPhase)

/-- How many bytes the block examines at the cursor: the opcode (or prefix) byte, and the second byte when it
resolves a `multi` entry (R55, R171). -/
def State.examined (s : State) : Nat := if s.resolving then 2 else 1

/-- What stands at the cursor: the examined bytes, each read behind its guard (R53), decoded in the active
table (R100, R193) or by the resolver's rows (R170). -/
def State.decodeAtCursor (s : State) : Decoded :=
  decode s.ctx.esc s.resolving (s.bytesAt s.pos.toNat s.examined)

/-- The DecodeFailure that a rejection stands for. -/
def rejectCause : Reject → Cause
  | .noByte => .noOpcode
  | .noSecondByte => .specialShort
  | .noEntry => .invalidOpcode
  | .noArm => .specialUnlisted

/-- A running transaction whose next step runs the instruction of the `nbits`-bit word `w` of the opcode table:
its pattern bytes in stream order, then zeros, in a window of 15 bytes.  A row of `T2` is placed as it stands
after its escape byte has been consumed (R85, R194); a row of the resolver as it stands after its `multi` entry
has been found (R199).  See assumption 6. -/
def placeWord (nbits w : Nat) (s : State) : State :=
  let bs := wordBytes (nbits / 8) w
  let s := startTransaction bs maxLen s
  match patternSite bs with
  | none => s
  | some (esc, resolving, _) =>
    let s := if esc then consumeByte (fun x => x.setEsc) .opcodePhase s else s
    if resolving then enterResolver s else s

end Sys2Proof.Machine
end

