-- ==== Sys2Proof/Machine/Step.lean ====
section
/-! DEFINITION. One step of the block (R35): in `IDLE` it waits (R261); otherwise it examines what stands at the
cursor and runs it, or takes the DecodeFailure that the missing byte or missing arm stands for. -/

namespace Sys2Proof.Machine

/-- One step. -/
def step (s : State) : Host.Outcome State Fault Refusal :=
  match s.phase with
  | .idle => .next s
  | .prefixPhase | .opcodePhase | .lengthPhase =>
    match s.decodeAtCursor with
    | .instr i => exec i s
    | .reject r => .next (takeDecodeFailure (rejectCause r) s)

/-- The state whose very next step runs the instruction of a table word: see `placeWord`. -/
def State.withFetchWord (s : State) (nbits w : Nat) : State := placeWord nbits w s

end Sys2Proof.Machine
end

