-- ==== Sys2Proof/Machine/Reference.lean ====
section
/-! DEFINITION. The operation `DECODE` as the pseudocode of rule R221, a pure function of the window and its length,
for EVERY configuration (R101, R127): the prefix loop (R190 to R198), the special-case resolver (R170 to
R179), the length by category (R201 to R219); and the list of the offsets it reads (R55).

"A model that is a pure function `Decode : (window, len) -> Result` ... is equally faithful" (R33).  The stepping
machine of `Machine/Step.lean` is stated to compute this function at the default configuration. -/

namespace Sys2Proof.Machine

/-- The outcome of a transaction with the internal cause label (R231). -/
inductive Verdict
  | length (L : Nat)
  | failure (cause : Cause)
  deriving DecidableEq, Repr

/-- What the special-case resolver returns (R170): the true category and the count of extra opcode bytes, or
failure. -/
inductive Resolution
  | found (cat : Category) (extra : Nat)
  | failed (cause : Cause)
  deriving DecidableEq, Repr

/-- Whether the prefix loop consumes the byte at `ctx.pfx` (R190); the bound is tested before the read. -/
def prefixByte (c : Config) (buf : Nat → Byte) (n : Nat) (x : Ctx) : Bool :=
  decide (x.pfx.toNat < n) && !x.esc && decide ((c.t1 (buf x.pfx.toNat)).cat = .PFX)

/-- The prefix loop (R190, R191), at most `fuel` times round. -/
def scanPrefixes (c : Config) (buf : Nat → Byte) (n : Nat) : Nat → Ctx → Ctx
  | 0, x => x
  | fuel + 1, x =>
    if prefixByte c buf n x then scanPrefixes c buf n fuel (x.consume (buf x.pfx.toNat)) else x

/-- The Decode Context at the end of the prefix phase: the loop runs at most `n <= 15` times (R223). -/
def prefixPhaseEnd (c : Config) (buf : Nat → Byte) (n : Nat) : Ctx := scanPrefixes c buf n maxLen Ctx.zero

/-- `Special(o, rem, esc)` (R170 to R179), the pseudocode of R178. -/
def special (c : Config) (buf : Nat → Byte) (o rem : Nat) (esc : Bool) : Resolution :=
  if rem < 2 then .failed .specialShort
  else
    let op := buf o
    let b2 := buf (o + 1)
    if esc = true ∧ op = 0x01#8 then
      if b2 ∈ c.w01 then .found .M 1 else .failed .specialUnlisted
    else if esc = true ∧ op = 0x38#8 then
      if b2 ∈ c.w38 then .found .MR 1 else .failed .specialUnlisted
    else if esc = true ∧ op = 0x3A#8 then
      if b2 ∈ c.w3aI8 then .found .MRI8 1
      else if b2 ∈ c.w3aNI then .found .MR 1
      else .failed .specialUnlisted
    else if esc = false ∧ op = 0xF6#8 then
      if regField b2 ≤ 1#3 then .found .MI8 0 else .found .M 0
    else if esc = false ∧ op = 0xF7#8 ∧ c.scF7 = .arm then
      if regField b2 ≤ 1#3 then .found .MI 0 else .found .M 0
    else .failed .specialUnlisted

/-- The table entry of the opcode byte (R193). -/
def activeEntry (c : Config) (x : Ctx) (op : Byte) : Entry := if x.esc then c.t2 op else c.t1 op

/-- The final bound check (R219). -/
def bounded (n L : Nat) : Verdict := if L > n then .failure .truncated else .length L

/-- Addressing and final check of a ModRM category (R204, R219). -/
def boundedModRM (buf : Nat → Byte) (n : Nat) (x : Ctx) (extra imm : Nat) : Verdict :=
  let o := x.pfx.toNat + (1 + extra)
  let a := addrSize x buf o (n - o)
  if a = 0 then .failure .addrShort else bounded n (x.pfx.toNat + (1 + extra) + a + imm)

/-- The length by category (R201 to R219). -/
def lengthVerdict (c : Config) (buf : Nat → Byte) (n : Nat) (x : Ctx) (cat : Category) (imm64 : Bool)
    (extra : Nat) : Verdict :=
  match cat with
  | .INV => .failure .invalidOpcode
  | .PFX => .failure .noRule
  | .NP | .O => bounded n (x.pfx.toNat + 1 + extra)
  | .M | .MR => boundedModRM buf n x extra 0
  | .MI8 | .MRI8 => boundedModRM buf n x extra 1
  | .MI => boundedModRM buf n x extra (immw c x imm64)
  | .AI8 => bounded n (x.pfx.toNat + 2 + extra)
  | .AI => bounded n (x.pfx.toNat + 1 + immw c x imm64 + extra)
  | .D => bounded n (x.pfx.toNat + 1 + immw c x false + extra)
  | .I16 => bounded n (x.pfx.toNat + 3 + extra)
  | .II => bounded n (x.pfx.toNat + 4 + extra)

/-- The opcode phase and length resolution from the context the prefix phase leaves (R193, R199, R201). -/
def opcodeVerdict (c : Config) (buf : Nat → Byte) (n : Nat) (x : Ctx) : Verdict :=
  let p := x.pfx.toNat
  let ent := activeEntry c x (buf p)
  if ent.multi then
    match special c buf p (n - p) x.esc with
    | .found cat extra => lengthVerdict c buf n x cat false extra
    | .failed cause => .failure cause
  else lengthVerdict c buf n x ent.cat ent.imm64 0

/-- `DECODE` with the cause label (R221). -/
def decodeVerdict (c : Config) (buf : Nat → Byte) (len : Nat) : Verdict :=
  let n := min len maxLen
  let x := prefixPhaseEnd c buf n
  if n ≤ x.pfx.toNat then .failure .noOpcode else opcodeVerdict c buf n x

/-- What the caller sees of a verdict: the label is not output (R232). -/
def Verdict.result : Verdict → Result
  | .length L => .valid L
  | .failure _ => .invalid

/-- `DECODE` (R221). -/
def decodeResult (c : Config) (buf : Nat → Byte) (len : Nat) : Result := (decodeVerdict c buf len).result

/-- A byte string as a window: byte `i` at offset `i` (R13). -/
def bytesFrom (bs : List Byte) (i : Nat) : Byte := bs.getD i 0

/-! ### The bytes that are read -/

/-- The offsets an addressing resolver reads at `o`: the ModRM byte and, for `mod = 0`, `rm = 4` of 32/64-bit
addressing, the SIB byte, each behind its guard (R55, R141, R146, R155). -/
def addrReads (x : Ctx) (buf : Nat → Byte) (o rem : Nat) : List Nat :=
  if rem < 1 then []
  else if x.addr16 = false ∧ modField (buf o) = 0#2 ∧ rmField (buf o) = 4#3 ∧ 2 ≤ rem then [o, o + 1]
  else [o]

/-- The offsets read after the prefix phase (R55). -/
def opcodeReads (c : Config) (buf : Nat → Byte) (n : Nat) (x : Ctx) : List Nat :=
  let p := x.pfx.toNat
  let ent := activeEntry c x (buf p)
  if ent.multi then
    if n - p < 2 then [p]
    else
      match special c buf p (n - p) x.esc with
      | .found _ extra => [p, p + 1] ++ addrReads x buf (p + 1 + extra) (n - (p + 1 + extra))
      | .failed _ => [p, p + 1]
  else if ent.cat.hasModRM then p :: addrReads x buf (p + 1) (n - (p + 1))
  else [p]

/-- The offsets `DECODE` reads, in the order of R55 (a byte read twice is listed twice, R266). -/
def readOffsets (c : Config) (buf : Nat → Byte) (len : Nat) : List Nat :=
  let n := min len maxLen
  let x := prefixPhaseEnd c buf n
  List.range x.pfx.toNat ++ (if n ≤ x.pfx.toNat then [] else opcodeReads c buf n x)

end Sys2Proof.Machine
end

