-- ==== Sys2Proof/Machine/Caller.lean ====
section
/-! DEFINITION. The caller's side (R20, R264 to R270): launching a transaction under the caller's obligations,
writing the buffer between transactions, running the block to its result, the three policies after `Invalid`
(R239) and the linear sweep (R270, decision D27); and several blocks side by side (R250).

None of this is part of the block (R270); `step` calls none of it (assumptions 10, 12, 15). -/

namespace Sys2Proof.Machine

/-- A launch by a caller that owns the bytes `bs` and gives `len` (R264).  Refused while a transaction runs
(R20) and when `len` exceeds what the caller owns (R241, R267, U10). -/
def launch (bs : List Byte) (len : Nat) (s : State) : Host.Outcome State Fault Refusal :=
  if s.phase ≠ .idle then .refused .launchWhileBusy
  else if bs.length < len then .refused .untruthfulLength
  else .next (startTransaction bs len s)

/-- A write of the caller's buffer.  Between transactions every change is seen by the next one (R63); during a
transaction the result is unspecified and the model refuses (R63, R266, U11). -/
def callerStore (i : Nat) (b : Byte) (s : State) : Host.Outcome State Fault Refusal :=
  if s.phase ≠ .idle then .refused .windowWritten
  else .next { s with mem := s.mem.write i b }

/-- A launch on the buffer as it stands (R239, *retry*: the same start, another `len`). -/
def relaunch (len : Nat) (s : State) : Host.Outcome State Fault Refusal :=
  if s.phase ≠ .idle then .refused .launchWhileBusy
  else
    .next (State.driveUnspecified
      { s with phase := .prefixPhase, ctx := Ctx.zero, pos := 0, inLen := len })

/-- At most `k` steps, stopping at a fault or a refusal, as a state (there is neither: R265). -/
def runSteps : Nat → State → State
  | 0, s => s
  | k + 1, s =>
    match step s with
    | .next t => runSteps k t
    | .fault _ => s
    | .refused _ => s

/-- How many steps end every transaction: one for each prefix byte, one for the opcode, one for the resolver
(R223, R265). -/
def stepsToEnd : Nat := maxLen + 1

/-- A whole transaction of the machine: start it and run it to its result. -/
def transact (bs : List Byte) (len : Nat) (s : State) : State := runSteps stepsToEnd (startTransaction bs len s)

/-- A length that a software binding was given as a signed number: a negative one is treated as 0 (R34). -/
def bindingLen (len : Int) : Nat := len.toNat

/-- What a software binding returns (R33, R34, R236). -/
def softwareDecode (c : Config) (bs : List Byte) (len : Int) : Int :=
  (decodeResult c (bytesFrom bs) (bindingLen len)).toInt c

/-! ### The linear sweep -/

/-- How a sweep ended (R270). -/
inductive SweepStatus
  | done | stoppedInvalid
  deriving DecidableEq, Repr

/-- The end state of a sweep (R270): the list of lengths (`none` marks a skipped byte), the final offset and
the status. -/
structure SweepEnd where
  lens : List (Option Nat)
  off : Nat
  status : SweepStatus
  deriving DecidableEq, Repr

/-- `Sweep` from offset `off` with the *abort* policy (R270); `fuel` bounds the number of launches. -/
def sweepFrom (c : Config) (code : List Byte) : Nat → Nat → SweepEnd
  | 0, off => ⟨[], off, .done⟩
  | fuel + 1, off =>
    if off < code.length then
      match decodeResult c (bytesFrom (code.drop off)) (code.length - off) with
      | .invalid => ⟨[], off, .stoppedInvalid⟩
      | .valid L =>
        let r := sweepFrom c code fuel (off + L)
        { r with lens := some L :: r.lens }
    else ⟨[], off, .done⟩

/-- `Sweep(code)` (R270): every launch advances by at least one byte. -/
def sweep (c : Config) (code : List Byte) : SweepEnd := sweepFrom c code code.length 0

/-- The sweep with the *skip* policy (R239, R270): after `Invalid`, one byte on and a mark in the list. -/
def sweepSkipFrom (c : Config) (code : List Byte) : Nat → Nat → SweepEnd
  | 0, off => ⟨[], off, .done⟩
  | fuel + 1, off =>
    if off < code.length then
      match decodeResult c (bytesFrom (code.drop off)) (code.length - off) with
      | .invalid =>
        let r := sweepSkipFrom c code fuel (off + 1)
        { r with lens := none :: r.lens }
      | .valid L =>
        let r := sweepSkipFrom c code fuel (off + L)
        { r with lens := some L :: r.lens }
    else ⟨[], off, .done⟩

/-- The skipping sweep from offset 0. -/
def sweepSkip (c : Config) (code : List Byte) : SweepEnd := sweepSkipFrom c code code.length 0

/-! ### Several blocks -/

/-- One block of several takes a step; the others stand (R250: "the product of single-instance models"). -/
def stepAt (k : Nat) (blocks : List State) : List State :=
  match blocks[k]? with
  | none => blocks
  | some s => blocks.set k (runSteps 1 s)

/-- An interleaving of several blocks: the blocks with the listed indexes take a step each, in the list's order
(R250; assumption 12).  An index that names no block is no step. -/
def interleave : List Nat → List State → List State
  | [], blocks => blocks
  | k :: ks, blocks => interleave ks (stepAt k blocks)

end Sys2Proof.Machine
end

