-- ==== Sys2Proof/Safety.lean ====
section
/-! DEFINITION. What claims about the machine are stated in: a running block, legal ports, the invariant of the
block's registers (R23 to R28, R35 to R37, R220), and a state that only the caller's inputs distinguish. -/

namespace Sys2Proof.Machine

/-- A transaction is running (R35). -/
abbrev State.running (s : State) : Prop := s.phase ≠ .idle

/-- The Decode Context that the consumed prefix bytes `buf 0 .. buf (k - 1)` leave (R23, R24, R191). -/
def contextAfter (buf : Nat → Byte) : Nat → Ctx
  | 0 => Ctx.zero
  | k + 1 => (contextAfter buf k).consume (buf k)

/-- The ports of an idle block (R33, R219): `Valid(L)` with `1 <= L <= n`, or `out_valid = 0` with
`out_len` tied off to 0. -/
def State.portsLegal (s : State) : Prop :=
  if s.outValid then 1 ≤ s.outLen.toNat ∧ s.outLen.toNat ≤ s.window else s.outLen = 0

/-- The invariant of the block: see the fields. -/
structure State.Inv (s : State) : Prop where
  /-- The buffer is in canonical form. -/
  memory : s.mem.wf = true
  /-- While a transaction runs the prefix count does not pass the window (R190, R220). -/
  count : s.running → s.ctx.pfx.toNat ≤ s.window
  /-- While a transaction runs the Decode Context is what the consumed prefix bytes make of the zero context
  (R23, R24, R36).  The context of a finished transaction is dead (R240). -/
  context : s.running → s.ctx = contextAfter s.byte s.ctx.pfx.toNat
  /-- Every consumed byte is tagged `PFX` in `T1` (R190). -/
  tagged : s.running → ∀ i < s.ctx.pfx.toNat, (machineConfig.t1 (s.byte i)).cat = .PFX
  /-- While a transaction runs the cursor stands behind the prefixes (R27). -/
  cursor : s.running → s.pos = s.ctx.pfx
  /-- In `PREFIX` the escape has not been seen (R190). -/
  prefixes : s.phase = .prefixPhase → s.ctx.esc = false
  /-- In `OPCODE` it has (R194). -/
  opcode : s.phase = .opcodePhase → s.ctx.esc = true
  /-- In `LENGTH` the entry at the cursor is a `multi` one and its second byte is in the window (R171, R199). -/
  resolver : s.phase = .lengthPhase →
    s.ctx.pfx.toNat + 2 ≤ s.window ∧
      (activeEntry machineConfig s.ctx (s.byte s.ctx.pfx.toNat)).multi = true
  /-- The ports of an idle block are legal (R33, R219). -/
  ports : s.phase = .idle → s.portsLegal

/-- The frame of a row that is no `PFX` row: the Decode Context (R25), the caller's buffer (R51) and length
are as before. -/
def sameInputsAndContext (s t : State) : Prop :=
  t.ctx = s.ctx ∧ t.inLen = s.inLen ∧ t.mem = s.mem

end Sys2Proof.Machine
end

