-- ==== Sys2Proof/Certificates/Slice0/Obligations.lean ====
section
/-! DEFINITION. The statements for the provers.  Statements about `exec` speak of all rows of one shape at a time, by
the row's `fields` (`Instr.fields`, R85), and hold for every row of that shape.  Statements that give a whole next state
at the end of a transaction also say where the dead cursor stands, which is the model's choice (assumption 9). -/

open Sys2Proof Sys2Proof.Machine

/-! ### Reset, waiting, stepping -/

/-- R37: hardware reset of any state, and the state after reset, register by register and port by port; the
caller's inputs are not touched by a reset. -/
def Obligations.ResetIsIdleAndZero : Prop :=
  (∀ s : State,
    (hardwareReset s).phase = .idle ∧
    (hardwareReset s).ctx.pfx = 0 ∧ (hardwareReset s).ctx.esc = false ∧ (hardwareReset s).ctx.op16 = false ∧
    (hardwareReset s).ctx.addr16 = false ∧ (hardwareReset s).ctx.rexw = false ∧
    (hardwareReset s).pos = 0 ∧ (hardwareReset s).outValid = false ∧ (hardwareReset s).outLen = 0 ∧
    (hardwareReset s).inLen = s.inLen ∧ (hardwareReset s).mem = s.mem) ∧
  hardwareReset State.reset = State.reset

/-- R261: in `IDLE` the block waits; nothing changes. -/
def Obligations.IdleBlockWaits : Prop := ∀ s : State, s.phase = .idle → step s = .next s

/-- A step runs the decoded instruction: the byte at the cursor in the active table (R100, R193) or, in `LENGTH`,
the pair of opcode byte and second byte (R199); a rejected pair is DecodeFailure (R177).  The cut into
steps is the model's choice, assumption 6. -/
def Obligations.StepRunsTheDecodedInstruction : Prop :=
  (∀ (s : State) (i : Instr), (s.phase = .prefixPhase ∨ s.phase = .opcodePhase) → s.pos.toNat < s.window →
    decode s.ctx.esc false [s.byte s.pos.toNat] = .instr i → step s = exec i s) ∧
  (∀ (s : State) (i : Instr), s.phase = .lengthPhase → s.pos.toNat + 1 < s.window →
    decode s.ctx.esc true [s.byte s.pos.toNat, s.byte (s.pos.toNat + 1)] = .instr i → step s = exec i s) ∧
  (∀ (s : State) (r : Reject), s.phase = .lengthPhase → s.pos.toNat + 1 < s.window →
    decode s.ctx.esc true [s.byte s.pos.toNat, s.byte (s.pos.toNat + 1)] = .reject r →
    step s = .next { s with phase := .idle, outValid := false, outLen := 0 })

/-- R192: a running block whose window is exhausted at the cursor ends the transaction with `Invalid`; nothing
else changes. -/
def Obligations.ExhaustedWindowIsInvalid : Prop :=
  ∀ s : State, s.running → s.window ≤ s.pos.toNat →
    step s = .next { s with phase := .idle, outValid := false, outLen := 0 }

/-- A word placed by `withFetchWord` is what the very next step runs, for every well-formed instruction's own
pattern bytes and from every state.  Where a word is placed is the model's choice, assumption 6. -/
def Obligations.PlacedWordIsTheNextInstruction : Prop :=
  ∀ (i : Instr) (s : State), WellFormed i →
    step (s.withFetchWord (8 * (encode i).length) (patternValue (encode i))) =
      exec i (s.withFetchWord (8 * (encode i).length) (patternValue (encode i)))

/-- R265: there is no stuck state: every step of every state, and every instruction in every state, answers a next
state. -/
def Obligations.EveryStepAnswersNext : Prop :=
  (∀ s : State, ∃ t, step s = .next t) ∧ ∀ (i : Instr) (s : State), ∃ t, exec i s = .next t

/-! ### The rows of the opcode table -/

/-- R191, R194 to R198: a `PFX` row counts its byte, sets the flag of its class and no other, moves the cursor
with the count, and goes on in `OPCODE` after the escape and in `PREFIX` after any other byte; the caller's
inputs are unchanged.  The output ports of a running block are unspecified (R37), so nothing is said of them.  The phase
clause rests on R35 (decision D2 of the spec) and on the cut into steps, which is the model's choice (assumption 6). -/
def Obligations.PrefixRowConsumesItsByte : Prop :=
  ∀ (i : Instr) (s : State), i.fields.entry.cat = .PFX →
    ∃ (b : Byte) (t : State), encode i = [b] ∧ exec i s = .next t ∧
      t.ctx.pfx = s.ctx.pfx + 1 ∧ t.pos = t.ctx.pfx ∧
      t.ctx.esc = (s.ctx.esc || decide (b = 0x0F#8)) ∧
      t.ctx.op16 = (s.ctx.op16 || decide (b = 0x66#8)) ∧
      t.ctx.addr16 = (s.ctx.addr16 || decide (b = 0x67#8)) ∧
      t.ctx.rexw = (s.ctx.rexw || decide (0x48#8 ≤ b ∧ b ≤ 0x4F#8)) ∧
      t.phase = (if b = 0x0F#8 then .opcodePhase else .prefixPhase) ∧
      t.inLen = s.inLen ∧ t.mem = s.mem

/-- R206: an `NP` row (none has an extra opcode byte) gives `L = pfx + 1 + extra` whenever that is in the window,
whatever the flags, and cannot fail when its opcode byte is there; context and inputs are unchanged. -/
def Obligations.NoOperandRowGivesItsLength : Prop :=
  ∀ (i : Instr) (s : State), i.fields.entry.cat = .NP →
    let L := s.ctx.pfx.toNat + 1 + i.fields.extra
    i.fields.extra = 0 ∧
    ∃ t, exec i s = .next t ∧ t.phase = .idle ∧ sameInputsAndContext s t ∧
      (L ≤ s.window → t.result = .valid L) ∧
      (s.window < L → t.result = .invalid ∧ t.outLen = 0) ∧
      (s.ctx.pfx.toNat < s.window → t.result = .valid L)

/-- R208: an `M` row (of a table or resolved) gives `L = pfx + opc + a` when the addressing resolver that `addr16`
selects returns `a` other than 0, and `Invalid` when it returns 0; context and inputs are unchanged. -/
def Obligations.ModRmRowGivesItsLength : Prop :=
  ∀ (i : Instr) (s : State), i.fields.entry.cat = .M → i.fields.entry.multi = false →
    let o := s.ctx.pfx.toNat + (1 + i.fields.extra)
    let a := if s.ctx.addr16 then addr16 s.byte o (s.window - o) else addr32 s.byte o (s.window - o)
    (a ≠ 0 → exec i s = .next { s with
      phase := .idle, pos := BitVec.ofNat 4 o, outValid := true, outLen := BitVec.ofNat 4 (o + a) }) ∧
    (a = 0 → exec i s = .next { s with
      phase := .idle, pos := BitVec.ofNat 4 o, outValid := false, outLen := 0 })

/-- R210: an `MI8` row (of a table or resolved) gives `L = pfx + opc + a + 1` when the resolver returns `a` other than
0 and the total is in the window, and `Invalid` otherwise; `op16` and `rexw` do not change the 1. -/
def Obligations.ModRmImm8RowGivesItsLength : Prop :=
  ∀ (i : Instr) (s : State), i.fields.entry.cat = .MI8 → i.fields.entry.multi = false →
    let o := s.ctx.pfx.toNat + (1 + i.fields.extra)
    let a := if s.ctx.addr16 then addr16 s.byte o (s.window - o) else addr32 s.byte o (s.window - o)
    (a ≠ 0 → o + a + 1 ≤ s.window → exec i s = .next { s with
      phase := .idle, pos := BitVec.ofNat 4 o, outValid := true, outLen := BitVec.ofNat 4 (o + a + 1) }) ∧
    (a = 0 ∨ s.window < o + a + 1 → exec i s = .next { s with
      phase := .idle, pos := BitVec.ofNat 4 o, outValid := false, outLen := 0 })

/-- R212: an `MI` row (of a table or resolved) gives `L = pfx + opc + a + immw(imm64)` when the resolver returns `a`
other than 0 and the total is in the window, and `Invalid` otherwise. -/
def Obligations.ModRmImmwRowGivesItsLength : Prop :=
  ∀ (i : Instr) (s : State), i.fields.entry.cat = .MI → i.fields.entry.multi = false →
    let o := s.ctx.pfx.toNat + (1 + i.fields.extra)
    let a := if s.ctx.addr16 then addr16 s.byte o (s.window - o) else addr32 s.byte o (s.window - o)
    let L := o + a + immw machineConfig s.ctx i.fields.entry.imm64
    (a ≠ 0 → L ≤ s.window → exec i s = .next { s with
      phase := .idle, pos := BitVec.ofNat 4 o, outValid := true, outLen := BitVec.ofNat 4 L }) ∧
    (a = 0 ∨ s.window < L → exec i s = .next { s with
      phase := .idle, pos := BitVec.ofNat 4 o, outValid := false, outLen := 0 })

/-- R213, R216, R217: an `AI8`, `I16` or `II` row gives `L = pfx + k + extra` with `k` = 2, 3 or 4 when the total is in
the window, and `Invalid` otherwise; no flag changes the count and no byte is read; context and inputs are unchanged. -/
def Obligations.FixedImmediateRowGivesItsLength : Prop :=
  ∀ (i : Instr) (s : State) (k : Nat),
    (i.fields.entry.cat = .AI8 ∧ k = 2) ∨ (i.fields.entry.cat = .I16 ∧ k = 3) ∨
      (i.fields.entry.cat = .II ∧ k = 4) →
    let L := s.ctx.pfx.toNat + k + i.fields.extra
    ∃ t, exec i s = .next t ∧ t.phase = .idle ∧ sameInputsAndContext s t ∧
      (L ≤ s.window → t.result = .valid L) ∧
      (s.window < L → t.result = .invalid ∧ t.outLen = 0)

/-- R214: an `AI` row gives `L = pfx + 1 + immw(imm64) + extra` when the total is in the window, and `Invalid`
otherwise. -/
def Obligations.SelectedImmediateRowGivesItsLength : Prop :=
  ∀ (i : Instr) (s : State), i.fields.entry.cat = .AI →
    let L := s.ctx.pfx.toNat + 1 + immw machineConfig s.ctx i.fields.entry.imm64 + i.fields.extra
    let p := BitVec.ofNat 4 (s.ctx.pfx.toNat + (1 + i.fields.extra))
    (L ≤ s.window → exec i s = .next { s with
      phase := .idle, pos := p, outValid := true, outLen := BitVec.ofNat 4 L }) ∧
    (s.window < L → exec i s = .next { s with phase := .idle, pos := p, outValid := false, outLen := 0 })

/-- Decision D10 of the spec (R215): a `D` row gives `L = pfx + 1 + immw(0) + extra`, with a displacement of 2 bytes
under `op16` (with the machine's `IMMW_BOTH`, whatever `rexw`) and 4 otherwise, never 8; `Invalid` when the
total passes the window.  2 bytes under both flags is decision D11 (assumption 4). -/
def Obligations.BranchRowGivesItsLength : Prop :=
  ∀ (i : Instr) (s : State), i.fields.entry.cat = .D →
    let L := s.ctx.pfx.toNat + 1 + (if s.ctx.op16 then 2 else 4) + i.fields.extra
    let p := BitVec.ofNat 4 (s.ctx.pfx.toNat + (1 + i.fields.extra))
    (L ≤ s.window → exec i s = .next { s with
      phase := .idle, pos := p, outValid := true, outLen := BitVec.ofNat 4 L }) ∧
    (s.window < L → exec i s = .next { s with phase := .idle, pos := p, outValid := false, outLen := 0 })

/-- Decision D9 of the spec (R207, R209, R211): the categories the source gives no arm take the arm with the same
trailing bytes: `O` that of `NP`, `MR` that of `M`, `MRI8` that of `MI8`. -/
def Obligations.CategoriesOfTheSameShapeAgree : Prop :=
  ∀ (i : Instr) (s : State), i.fields.entry.multi = false →
    let o := s.ctx.pfx.toNat + (1 + i.fields.extra)
    let a := if s.ctx.addr16 then addr16 s.byte o (s.window - o) else addr32 s.byte o (s.window - o)
    let done (L : Nat) : State := { s with
      phase := .idle, pos := BitVec.ofNat 4 o, outValid := true, outLen := BitVec.ofNat 4 L }
    let failed : State := { s with phase := .idle, pos := BitVec.ofNat 4 o, outValid := false, outLen := 0 }
    (i.fields.entry.cat = .O → (o ≤ s.window → exec i s = .next (done o)) ∧
      (s.window < o → exec i s = .next failed)) ∧
    (i.fields.entry.cat = .MR → (a ≠ 0 → exec i s = .next (done (o + a))) ∧
      (a = 0 → exec i s = .next failed)) ∧
    (i.fields.entry.cat = .MRI8 → (a ≠ 0 → o + a + 1 ≤ s.window → exec i s = .next (done (o + a + 1))) ∧
      (a = 0 ∨ s.window < o + a + 1 → exec i s = .next failed))

/-- R205, R172 to R174, R238: an `INV` row (of a table, or of a whitelist's complement) takes DecodeFailure whatever
the state: `Invalid` on the ports, `IDLE`, nothing saved; context and inputs are unchanged. -/
def Obligations.InvalidRowTakesDecodeFailure : Prop :=
  ∀ (i : Instr) (s : State), i.fields.entry.cat = .INV →
    ∃ t, exec i s = .next t ∧ t.phase = .idle ∧ sameInputsAndContext s t ∧
      t.result = .invalid ∧ t.outValid = false ∧ t.outLen = 0

/-- R171, R199: a row flagged `multi` hands over to the resolver when its second byte is in the window, context,
cursor and inputs unchanged, and takes DecodeFailure when it is not. -/
def Obligations.MultiRowHandsOverOrFails : Prop :=
  ∀ (i : Instr) (s : State), i.fields.entry.multi = true →
    (s.ctx.pfx.toNat + 2 ≤ s.window →
      ∃ t, exec i s = .next t ∧ t.phase = .lengthPhase ∧ t.ctx = s.ctx ∧ t.pos = s.pos ∧ t.inLen = s.inLen ∧
        t.mem = s.mem) ∧
    (s.window < s.ctx.pfx.toNat + 2 →
      exec i s = .next { s with phase := .idle, outValid := false, outLen := 0 })

/-! ### Rules over the whole machine -/

/-- R51: no step writes the caller's buffer or its length, at any address. -/
def Obligations.StepLeavesTheBufferAlone : Prop :=
  ∀ s t : State, step s = .next t →
    t.mem = s.mem ∧ t.inLen = s.inLen ∧ ∀ i, t.byte i = s.byte i

/-- R25: nothing but a `PFX` row writes a mode flag or the prefix count: every other row, and every step taken in
`OPCODE`, `LENGTH` or `IDLE`, leaves the Decode Context as it is. -/
def Obligations.OnlyThePrefixPhaseWritesTheContext : Prop :=
  (∀ (i : Instr) (s t : State), i.fields.entry.cat ≠ .PFX → exec i s = .next t → sameInputsAndContext s t) ∧
  (∀ s t : State, s.Inv → s.phase ≠ .prefixPhase → step s = .next t → t.ctx = s.ctx)

/-- R24: within a transaction the mode flags are never cleared and the prefix count never decreases. -/
def Obligations.FlagsAndCountAreMonotonic : Prop :=
  ∀ s t : State, s.Inv → step s = .next t →
    (s.ctx.esc = true → t.ctx.esc = true) ∧ (s.ctx.op16 = true → t.ctx.op16 = true) ∧
    (s.ctx.addr16 = true → t.ctx.addr16 = true) ∧ (s.ctx.rexw = true → t.ctx.rexw = true) ∧
    s.ctx.pfx.toNat ≤ t.ctx.pfx.toNat

/-- The invariant of `Safety.lean` is kept by every step. -/
def Obligations.StepKeepsTheInvariant : Prop :=
  ∀ s t : State, s.Inv → step s = .next t → t.Inv

/-- The invariant holds after reset. -/
def Obligations.ResetMeetsTheInvariant : Prop := State.reset.Inv

/-- The invariant is kept by everything the caller and the reset input can do: a launch, a relaunch, a write of the
buffer, and a reset at any moment. -/
def Obligations.CallerAndResetKeepTheInvariant : Prop :=
  (∀ s : State, s.Inv → (hardwareReset s).Inv) ∧
  (∀ (bs : List Byte) (len : Nat) (s t : State), s.Inv → launch bs len s = .next t → t.Inv) ∧
  (∀ (len : Nat) (s t : State), s.Inv → relaunch len s = .next t → t.Inv) ∧
  (∀ (k : Nat) (b : Byte) (s t : State), s.Inv → callerStore k b s = .next t → t.Inv)

/-- The stepping machine computes `DECODE` (R221): from any state, a transaction started on any byte string with any
length is over after at most 16 steps (R265), the block is idle, the ports show the result of the pseudocode
at the machine's configuration (the spec's default one, assumption 4), and the caller's inputs are as they were given. -/
def Obligations.TransactionComputesDecode : Prop :=
  ∀ (bs : List Byte) (len : Nat) (s : State),
    (transact bs len s).phase = .idle ∧
    (transact bs len s).result = decodeResult machineConfig (bytesFrom bs) len ∧
    ((transact bs len s).outValid = false → (transact bs len s).outLen = 0) ∧
    (transact bs len s).inLen = len ∧ (transact bs len s).mem = Memory.ofBytes bs

/-- R22, R31, R235, R260: no hidden state.  What a block has done before a transaction (other transactions, failed
or not, abandoned ones, resets) has no effect on its result, nor have the bytes at or beyond `min(len, 15)`. -/
def Obligations.ResultDependsOnlyOnTheWindow : Prop :=
  ∀ (bs bs' : List Byte) (len : Nat) (s s' : State),
    (∀ i < min len 15, bytesFrom bs i = bytesFrom bs' i) →
    (transact bs len s).result = (transact bs' len s').result ∧
    (transact bs len (hardwareReset s)).result = (transact bs' len s').result

/-- R20, R63, R241, R267: what the caller may do and what is refused (the refusals by name are assumption 10). -/
def Obligations.CallerContract : Prop :=
  (∀ (bs : List Byte) (len : Nat) (s : State), s.phase = .idle → len ≤ bs.length →
    ∃ t, launch bs len s = .next t ∧ t.phase = .prefixPhase ∧ t.ctx = Ctx.zero ∧ t.pos = 0 ∧ t.inLen = len ∧
      ∀ i, t.byte i = bytesFrom bs i) ∧
  (∀ (bs : List Byte) (len : Nat) (s : State), s.running → launch bs len s = .refused .launchWhileBusy) ∧
  (∀ (bs : List Byte) (len : Nat) (s : State), s.phase = .idle → bs.length < len →
    launch bs len s = .refused .untruthfulLength) ∧
  (∀ (k : Nat) (b : Byte) (s : State), s.running → callerStore k b s = .refused .windowWritten)

/-- R63: a write of the buffer between transactions is seen at its offset and nowhere else, and the next
transaction reads it. -/
def Obligations.StoreBetweenTransactionsIsSeen : Prop :=
  ∀ (k : Nat) (b : Byte) (s : State), s.phase = .idle → s.mem.wf = true →
    ∃ t, callerStore k b s = .next t ∧ t.byte k = b ∧ (∀ i, i ≠ k → t.byte i = s.byte i) ∧ t.mem.wf = true ∧
      ∀ len, ∃ u, relaunch len t = .next u ∧ u.byte k = b

/-! ### Encoding -/

/-- Decode and encode agree: every well-formed instruction's bytes, followed by anything, decode to it where its row
is eligible, and the word of its whole pattern is read back as it. -/
def Obligations.DecodeOfEncodeIsTheInstruction : Prop :=
  ∀ (i : Instr) (rest : List Byte), WellFormed i →
    decode i.escaped i.resolved (encodeAtCursor i ++ rest) = .instr i ∧
    decodeTableWord (8 * (encode i).length) (patternValue (encode i)) = some i

/-- Each byte string has one meaning: what the decoder answers is well-formed, is a row of the table or resolver it
was asked for, and its encoding is what was read. -/
def Obligations.EncodeOfDecodeIsTheBytes : Prop :=
  ∀ (esc resolving : Bool) (bs : List Byte) (i : Instr), decode esc resolving bs = .instr i →
    WellFormed i ∧ i.escaped = esc ∧ i.resolved = resolving ∧ ∃ rest, bs = encodeAtCursor i ++ rest

/-- R85, R100: the rows of each table partition the 256 indexes: exactly one row matches, and its entry is the table's
(R124, R125). -/
def Obligations.RowsPartitionTheTables : Prop :=
  ∀ b : Byte,
    (t1Rows.filter fun r => patternValue [b] &&& r.mask == r.pat).length = 1 ∧
    (t2Rows.filter fun r => patternValue [0x0F#8, b] &&& r.mask == r.pat).length = 1 ∧
    (∃ i, decode false false [b] = .instr i ∧ i.fields = ⟨machineConfig.t1 b, 0⟩) ∧
    (∃ i, decode true false [b] = .instr i ∧ i.fields = ⟨machineConfig.t2 b, 0⟩)

/-- R175, R176, R172 to R174: the resolver's rows say what `Special` says: for every `multi` opcode and every second
byte, the decoded row has the category and the extra count of the resolver's answer, or category `INV` where the
resolver fails. -/
def Obligations.ResolverRowsAgreeWithSpecial : Prop :=
  ∀ (esc : Bool) (op b2 : Byte),
    (if esc then machineConfig.t2 op else machineConfig.t1 op).multi = true →
    ∃ i, decode esc true [op, b2] = .instr i ∧
      match special machineConfig (bytesFrom [op, b2]) 0 2 esc with
      | .found cat extra => i.fields = ⟨⟨cat, false, false⟩, extra⟩
      | .failed cause => i.fields.entry.cat = .INV ∧ cause = .specialUnlisted

/-- A few words of the opcode table, one of each family, decode to the rows they stand for. -/
def Obligations.SampleWordsDecode : Prop :=
  decodeTableWord 8 0x66 = some .op1_66 ∧ decodeTableWord 8 0x4F = some (.op1_48_4F 7#3) ∧
  decodeTableWord 8 0x90 = some .op1_90 ∧ decodeTableWord 8 0x55 = some (.op1_50_57 5#3) ∧
  decodeTableWord 8 0x8B = some (.op1_8A_8B 1#1) ∧ decodeTableWord 8 0x83 = some .op1_83 ∧
  decodeTableWord 8 0x06 = some (.op1_06_07 0#1) ∧ decodeTableWord 16 0x0F84 = some (.op2_80_8F 4#4) ∧
  decodeTableWord 8 0xF6 = some .op1_F6 ∧ decodeTableWord 16 0xF605 = some (.op1_F6_r0 0#2 5#3) ∧
  decodeTableWord 24 0x0F3A0F = some .op2_3A_0F ∧ decodeTableWord 24 0x0F380C = some (.op2_38_other 0x0C#8)

/-! ### The addressing size unit and the immediate width -/

/-- R142 to R144 and R147 to R151: the value of `Addr32` case by case, with the window test. -/
def Obligations.Addr32CaseByCase : Prop :=
  ∀ (buf : Nat → Byte) (o rem : Nat),
    let m := buf o
    let s := buf (o + 1)
    let test (r : Nat) : Nat := if r ≤ rem then r else 0
    (modField m = 3#2 → addr32 buf o rem = test 1) ∧
    (modField m = 0#2 → rmField m ≠ 4#3 → rmField m ≠ 5#3 → addr32 buf o rem = test 1) ∧
    (modField m = 0#2 → rmField m = 5#3 → addr32 buf o rem = test 5) ∧
    (modField m = 0#2 → rmField m = 4#3 → baseField s = 5#3 → indexField s = 4#3 → addr32 buf o rem = test 6) ∧
    (modField m = 0#2 → rmField m = 4#3 → ¬(baseField s = 5#3 ∧ indexField s = 4#3) →
      addr32 buf o rem = test 2) ∧
    (modField m = 1#2 → rmField m ≠ 4#3 → addr32 buf o rem = test 2) ∧
    (modField m = 1#2 → rmField m = 4#3 → addr32 buf o rem = test 3) ∧
    (modField m = 2#2 → rmField m ≠ 4#3 → addr32 buf o rem = test 5) ∧
    (modField m = 2#2 → rmField m = 4#3 → addr32 buf o rem = test 6)

/-- R156 to R161: the value of `Addr16` case by case, with the window test. -/
def Obligations.Addr16CaseByCase : Prop :=
  ∀ (buf : Nat → Byte) (o rem : Nat),
    let m := buf o
    let test (r : Nat) : Nat := if r ≤ rem then r else 0
    (modField m = 3#2 → addr16 buf o rem = test 1) ∧
    (modField m = 0#2 → rmField m ≠ 6#3 → addr16 buf o rem = test 1) ∧
    (modField m = 0#2 → rmField m = 6#3 → addr16 buf o rem = test 3) ∧
    (modField m = 1#2 → addr16 buf o rem = test 2) ∧
    (modField m = 2#2 → addr16 buf o rem = test 3)

/-- R71, R72: the fields of the ModRM and SIB bytes are the bits the rules name. -/
def Obligations.ByteFieldsAreTheNamedBits : Prop :=
  ∀ b : Byte,
    b.toNat = 64 * (modField b).toNat + 8 * (regField b).toNat + (rmField b).toNat ∧
    b.toNat = 64 * (scaleField b).toNat + 8 * (indexField b).toNat + (baseField b).toNat

/-- R152, R162, R163: the returns are 0, 1, 2, 3, 5 or 6 (0 to 3 in 16-bit addressing), a nonzero return lies in the
window, and 0 means insufficient bytes only: with six bytes (three in 16-bit addressing) it does not occur. -/
def Obligations.AddressingReturnsAreBounded : Prop :=
  ∀ (buf : Nat → Byte) (o rem : Nat),
    addr32 buf o rem ∈ [0, 1, 2, 3, 5, 6] ∧ addr32 buf o rem ≤ rem ∧ (6 ≤ rem → addr32 buf o rem ≠ 0) ∧
    addr16 buf o rem ∈ [0, 1, 2, 3] ∧ addr16 buf o rem ≤ rem ∧ (3 ≤ rem → addr16 buf o rem ≠ 0)

/-- R203: the selected immediate width over the index `(op16, rexw)`, for both settings of `IMMW_BOTH`. -/
def Obligations.ImmediateWidthTable : Prop :=
  ∀ (c : Config) (x : Ctx) (imm64 : Bool),
    (x.op16 = false → x.rexw = false → immw c x imm64 = 4) ∧
    (x.op16 = true → x.rexw = false → immw c x imm64 = 2) ∧
    (x.op16 = false → x.rexw = true → immw c x imm64 = if imm64 then 8 else 4) ∧
    (x.op16 = true → x.rexw = true → c.immwBoth = .op16Wins → immw c x imm64 = 2) ∧
    (x.op16 = true → x.rexw = true → c.immwBoth = .rexwWins → immw c x imm64 = if imm64 then 8 else 4)

/-! ### `DECODE` under every configuration -/

/-- R263: the default configuration is valid (`Config.Valid.t1_multi` is the model's reading, assumption 7). -/
def Obligations.DefaultConfigurationIsValid : Prop := defaultConfig.Valid ∧ machineConfig.Valid

/-- R219: a returned length is at least 1 and exceeds neither 15 nor the supplied length. -/
def Obligations.ReturnedLengthIsBounded : Prop :=
  ∀ (c : Config) (buf : Nat → Byte) (len L : Nat), decodeResult c buf len = .valid L →
    1 ≤ L ∧ L ≤ 15 ∧ L ≤ len

/-- R236: the software binding's integer is the length or the negative sentinel; it is never 0. -/
def Obligations.SentinelIsNegative : Prop :=
  ∀ (c : Config) (buf : Nat → Byte) (len : Nat), c.Valid →
    (decodeResult c buf len = .invalid ↔ (decodeResult c buf len).toInt c < 0) ∧
    (∀ L, decodeResult c buf len = .valid L ↔ (decodeResult c buf len).toInt c = (L : Int)) ∧
    (decodeResult c buf len).toInt c ≠ 0

/-- R34: a software binding takes a negative length as 0, and the result of no bytes is the sentinel (R192). -/
def Obligations.NonPositiveLengthGivesTheSentinel : Prop :=
  ∀ (c : Config) (bs : List Byte) (len : Int), len ≤ 0 → softwareDecode c bs len = c.invalidSentinel

/-- R102 to R109, R114 to R120, R123: in the tables of the machine the `PFX`, `multi` and `imm64` bytes are exactly these. -/
def Obligations.LandmarksOfTheDefaultTables : Prop :=
  ∀ b : Byte,
    ((machineConfig.t1 b).cat = .PFX ↔
      b ∈ [0x0F#8, 0x26#8, 0x2E#8, 0x36#8, 0x3E#8, 0x66#8, 0x67#8, 0x64#8, 0x65#8, 0xF0#8, 0xF2#8, 0xF3#8] ∨
        (0x40#8 ≤ b ∧ b ≤ 0x4F#8)) ∧
    ((machineConfig.t1 b).multi = true ↔ b = 0xF6#8 ∨ b = 0xF7#8) ∧
    ((machineConfig.t1 b).imm64 = true ↔ 0xB8#8 ≤ b ∧ b ≤ 0xBF#8) ∧
    ((machineConfig.t1 b).cat = .I16 ↔ b = 0xC2#8 ∨ b = 0xCA#8) ∧
    ((machineConfig.t1 b).cat = .II ↔ b = 0xC8#8) ∧
    (machineConfig.t2 b).cat ≠ .PFX ∧ (machineConfig.t2 b).imm64 = false ∧
    ((machineConfig.t2 b).multi = true ↔ b = 0x01#8 ∨ b = 0x38#8 ∨ b = 0x3A#8)

/-- R231, R237: exactly when four of the causes end a transaction, in the order of the pseudocode. -/
def Obligations.WhenTheEarlyCausesAreRaised : Prop :=
  ∀ (c : Config) (buf : Nat → Byte) (len : Nat),
    let n := min len 15
    let x := prefixPhaseEnd c buf n
    let e := activeEntry c x (buf x.pfx.toNat)
    (decodeVerdict c buf len = .failure .noOpcode ↔ n ≤ x.pfx.toNat) ∧
    (decodeVerdict c buf len = .failure .specialShort ↔ x.pfx.toNat + 1 = n ∧ e.multi = true) ∧
    (decodeVerdict c buf len = .failure .invalidOpcode ↔ x.pfx.toNat < n ∧ e.multi = false ∧ e.cat = .INV) ∧
    (decodeVerdict c buf len = .failure .noRule ↔ x.pfx.toNat < n ∧ e.multi = false ∧ e.cat = .PFX)

/-- 95_test_vectors.md part 1: the six scenarios of the source hold for every valid configuration. -/
def Obligations.ScenariosHoldForEveryValidConfiguration : Prop :=
  ∀ c : Config, c.Valid →
    decodeResult c (bytesFrom [0x90#8]) 1 = .valid 1 ∧
    decodeResult c (bytesFrom [0x48#8, 0x89#8, 0xE5#8]) 3 = .valid 3 ∧
    decodeResult c (bytesFrom [0x0F#8, 0x1F#8, 0x00#8]) 3 = .valid 3 ∧
    decodeResult c (bytesFrom [0x66#8, 0x83#8, 0x7D#8, 0xFC#8, 0x00#8]) 5 = .valid 5 ∧
    decodeResult c (bytesFrom [0xFF#8]) 1 = .invalid ∧
    decodeResult c (bytesFrom [0xF6#8, 0x05#8, 0x00#8, 0x00#8, 0x00#8, 0x00#8, 0x01#8]) 7 = .valid 7

/-- R54: windows that agree below `min(len, 15)` give the same verdict, and a `len` above 15 behaves as 15. -/
def Obligations.WindowIsClampedToFifteen : Prop :=
  ∀ (c : Config) (buf buf' : Nat → Byte) (len : Nat),
    ((∀ i < min len 15, buf i = buf' i) → decodeVerdict c buf len = decodeVerdict c buf' len) ∧
    (15 ≤ len → decodeVerdict c buf len = decodeVerdict c buf 15)

/-- R53, R55: every offset `DECODE` reads is inside the window and at most three beyond the opcode byte. -/
def Obligations.ReadsStayInsideTheWindow : Prop :=
  ∀ (c : Config) (buf : Nat → Byte) (len i : Nat), i ∈ readOffsets c buf len →
    i < min len 15 ∧ i < (prefixPhaseEnd c buf (min len 15)).pfx.toNat + 4

/-- R55: the bytes that are not read do not matter: a window that agrees at the offsets read gives the same verdict
and reads the same offsets, so no displacement or immediate byte, and no SIB byte outside the one case, can change
the result. -/
def Obligations.UnreadBytesDoNotMatter : Prop :=
  ∀ (c : Config) (buf buf' : Nat → Byte) (len : Nat),
    (∀ i ∈ readOffsets c buf len, buf i = buf' i) →
    decodeVerdict c buf' len = decodeVerdict c buf len ∧ readOffsets c buf' len = readOffsets c buf len

/-- R222, window monotonicity: a length found in a window is found in every window that holds it, and no window
shorter than it gives a length. -/
def Obligations.WindowMonotonicity : Prop :=
  ∀ (c : Config) (buf : Nat → Byte) (len L : Nat), decodeResult c buf len = .valid L →
    (∀ len', L ≤ len' → decodeResult c buf len' = .valid L) ∧
    (∀ len', len' < L → decodeResult c buf len' = .invalid)

/-- R222, prefix monotonicity, for the prefixes that set no flag (R198): one more such prefix makes the length one
more, as long as it fits in 15. -/
def Obligations.UntrackedPrefixAddsOne : Prop :=
  ∀ (c : Config) (p : Byte) (w : List Byte) (len L : Nat),
    (c.t1 p).cat = .PFX → p ≠ 0x0F#8 → p ≠ 0x66#8 → p ≠ 0x67#8 → ¬(0x48#8 ≤ p ∧ p ≤ 0x4F#8) →
    decodeResult c (bytesFrom w) len = .valid L → L + 1 ≤ 15 →
    decodeResult c (bytesFrom (p :: w)) (len + 1) = .valid (L + 1)

/-- R190, R223: where the prefix phase ends: every byte it consumed is tagged `PFX` in `T1`, none but the last is the
escape, and it stopped because the window is exhausted, the escape was seen, or the next byte is no prefix. -/
def Obligations.PrefixPhaseIsTheMaximalRun : Prop :=
  ∀ (c : Config) (buf : Nat → Byte) (n : Nat), n ≤ 15 →
    let x := prefixPhaseEnd c buf n
    x.pfx.toNat ≤ n ∧
    (∀ i < x.pfx.toNat, (c.t1 (buf i)).cat = .PFX) ∧
    (∀ i, i + 1 < x.pfx.toNat → buf i ≠ 0x0F#8) ∧
    (x.esc = true ↔ 0 < x.pfx.toNat ∧ buf (x.pfx.toNat - 1) = 0x0F#8) ∧
    (x.op16 = true ↔ ∃ i < x.pfx.toNat, buf i = 0x66#8) ∧
    (x.addr16 = true ↔ ∃ i < x.pfx.toNat, buf i = 0x67#8) ∧
    (x.rexw = true ↔ ∃ i < x.pfx.toNat, 0x48#8 ≤ buf i ∧ buf i ≤ 0x4F#8) ∧
    (x.pfx.toNat = n ∨ x.esc = true ∨ (c.t1 (buf x.pfx.toNat)).cat ≠ .PFX)

/-- R123, R194: the byte after the escape is the opcode, whatever it is. -/
def Obligations.ByteAfterTheEscapeIsTheOpcode : Prop :=
  ∀ (c : Config) (buf : Nat → Byte) (len : Nat), (c.t1 0x0F#8).cat = .PFX → buf 0 = 0x0F#8 → 2 ≤ len →
    prefixPhaseEnd c buf (min len 15) = ⟨1, true, false, false, false⟩ ∧
    decodeVerdict c buf len = opcodeVerdict c buf (min len 15) ⟨1, true, false, false, false⟩

/-- R218, R177: a `PFX` entry reached through `T2`, and a `multi` entry whose opcode has no arm, are failures in every
configuration. -/
def Obligations.EntriesWithoutARuleFail : Prop :=
  ∀ (c : Config) (buf : Nat → Byte) (len : Nat),
    let n := min len 15
    let x := prefixPhaseEnd c buf n
    let op := buf x.pfx.toNat
    x.pfx.toNat < n →
    (x.esc = true → (c.t2 op).multi = false → (c.t2 op).cat = .PFX →
      decodeVerdict c buf len = .failure .noRule) ∧
    ((activeEntry c x op).multi = true → x.pfx.toNat + 2 ≤ n →
      (x.esc = true → op ≠ 0x01#8 ∧ op ≠ 0x38#8 ∧ op ≠ 0x3A#8) →
      (x.esc = false → op ≠ 0xF6#8 ∧ (op = 0xF7#8 → c.scF7 = .none)) →
      decodeVerdict c buf len = .failure .specialUnlisted)

/-- R233: an opcode whose entry is a plain `NP` or `O` cannot fail once its byte is in the window. -/
def Obligations.NoOperandOpcodeCannotFail : Prop :=
  ∀ (c : Config) (buf : Nat → Byte) (len : Nat),
    let n := min len 15
    let x := prefixPhaseEnd c buf n
    let e := activeEntry c x (buf x.pfx.toNat)
    x.pfx.toNat < n → e.multi = false → e.cat = .NP ∨ e.cat = .O →
    decodeVerdict c buf len = .length (x.pfx.toNat + 1)

/-- R239: more bytes never turn an invalid opcode or an unlisted second byte into a length. -/
def Obligations.RetryCannotMendAnInvalidOpcode : Prop :=
  ∀ (c : Config) (buf : Nat → Byte) (len len' : Nat) (cause : Cause),
    cause = .invalidOpcode ∨ cause = .specialUnlisted ∨ cause = .noRule → len ≤ len' →
    decodeVerdict c buf len = .failure cause → decodeVerdict c buf len' = .failure cause

/-! ### The caller's sweep -/

/-- R270: the sweep's lengths tile the code up to its final offset; `DONE` means the whole code, and
`STOPPED_INVALID` that the block refuses the rest. -/
def Obligations.SweepTilesTheCode : Prop :=
  ∀ (c : Config) (code : List Byte),
    let r := sweep c code
    (∀ x ∈ r.lens, ∃ L, x = some L ∧ 1 ≤ L ∧ L ≤ 15) ∧
    (r.lens.map fun x => x.getD 0).sum = r.off ∧
    (r.status = .done → r.off = code.length) ∧
    (r.status = .stoppedInvalid → r.off < code.length ∧
      decodeResult c (bytesFrom (code.drop r.off)) (code.length - r.off) = .invalid)

/-- R239, R270, the *skip* policy: the sweep always reaches the end of the code, each mark standing for one byte. -/
def Obligations.SkippingSweepReachesTheEnd : Prop :=
  ∀ (c : Config) (code : List Byte),
    (sweepSkip c code).status = .done ∧ (sweepSkip c code).off = code.length ∧
    ((sweepSkip c code).lens.map fun x => x.getD 1).sum = code.length

/-- R250, a model of several instances is the product of single-instance models: whatever the interleaving, block `j` is
afterwards where as many steps of its own as the interleaving gives it take it, and no block appears or vanishes.  The
interleaving of steps is the model's choice, assumption 12. -/
def Obligations.BlocksDoNotInterfere : Prop :=
  ∀ (ks : List Nat) (blocks : List State) (j : Nat),
    (interleave ks blocks)[j]? = blocks[j]?.map (runSteps (ks.count j))

/-- R250, R265: of several blocks that run at once, each that has started a transaction and is given 16 steps or more
ends it with the result of its own window (at the machine's configuration, assumption 4), whatever state the others
are in, whatever they run and in whatever order the steps come (assumption 12). -/
def Obligations.InterleavedTransactionsEachComputeDecode : Prop :=
  ∀ (ks : List Nat) (blocks : List State) (j : Nat) (bs : List Byte) (len : Nat) (s : State),
    blocks[j]? = some (startTransaction bs len s) → stepsToEnd ≤ ks.count j →
    ∃ t, (interleave ks blocks)[j]? = some t ∧ t.phase = .idle ∧
      t.result = decodeResult machineConfig (bytesFrom bs) len ∧ t.inLen = len ∧ t.mem = Memory.ofBytes bs
end

