-- ==== Sys2Proof/Laws/Decode.lean ====
section
/-! SUPPORT. The rows of the opcode table against the tables and the resolver: every byte has a row, the row is the
table's entry (R85, R100), and every pair of a `multi` opcode and a second byte has the row that the resolver
gives it (R178). -/

set_option Elab.async false

namespace Sys2Proof.Machine

/-- A row found for the byte `b` of a table whose entry is `e`. -/
def rowMatches (esc : Bool) (b : Byte) (e : Entry) : Bool :=
  match decodeEntry esc b with
  | .reject _ => false
  | .instr i =>
    decide (i.fields = ⟨e, 0⟩) && decide (encodeAtCursor i = [b]) && (i.escaped == esc) && !i.resolved
      && i.wellFormed

theorem t1_rows (b : Byte) : rowMatches false b (machineConfig.t1 b) = true := by
  revert b; decide +kernel

theorem t2_rows (b : Byte) : rowMatches true b (machineConfig.t2 b) = true := by
  revert b; decide +kernel

/-- Every byte has a row of the active table, and the row says what the table says. -/
theorem decodeEntry_row (esc : Bool) (b : Byte) :
    ∃ i, decodeEntry esc b = .instr i ∧ i.fields = ⟨if esc then machineConfig.t2 b else machineConfig.t1 b, 0⟩ ∧
      encodeAtCursor i = [b] ∧ i.escaped = esc ∧ i.resolved = false ∧ WellFormed i := by
  have h : rowMatches esc b (if esc then machineConfig.t2 b else machineConfig.t1 b) = true := by
    cases esc
    · exact t1_rows b
    · exact t2_rows b
  unfold rowMatches at h
  split at h
  · exact absurd h Bool.false_ne_true
  · rename_i i hi
    simp only [Bool.and_eq_true, decide_eq_true_eq, beq_iff_eq, Bool.not_eq_true'] at h
    obtain ⟨⟨⟨⟨h1, h2⟩, h3⟩, h4⟩, h5⟩ := h
    exact ⟨i, hi, h1, h2, h3, h4, h5⟩

/-- The window that holds two bytes. -/
def pair (op b2 : Byte) (i : Nat) : Byte := if i = 0 then op else b2

/-- The resolver looks at two bytes only (R170, R171). -/
theorem special_pair (c : Config) (buf : Nat → Byte) (o rem : Nat) (esc : Bool) (h : 2 ≤ rem) :
    special c buf o rem esc = special c (pair (buf o) (buf (o + 1))) 0 2 esc := by
  have h' : ¬rem < 2 := by omega
  simp [special, pair, h']

/-- The resolver's arms answer ModRM categories and at most one extra opcode byte (R170, R172 to R176). -/
theorem special_found {c : Config} {buf : Nat → Byte} {o rem : Nat} {esc : Bool} {cat : Category} {extra : Nat}
    (h : special c buf o rem esc = .found cat extra) : cat.hasModRM = true ∧ extra ≤ 1 ∧ 2 ≤ rem := by
  dsimp only [special] at h
  split at h
  · nomatch h
  · repeat' split at h
    all_goals first
      | (injection h with h1 h2; subst h1 h2; exact ⟨rfl, by decide, by omega⟩)
      | nomatch h

/-- The row that the resolver's answer calls for. -/
def resolvedFields : Resolution → RowFields
  | .found cat extra => ⟨⟨cat, false, false⟩, extra⟩
  | .failed _ => ⟨⟨.INV, false, false⟩, 0⟩

/-- A row found for the pair of opcode byte and second byte. -/
def pairMatches (esc : Bool) (op b2 : Byte) : Bool :=
  match decode esc true [op, b2] with
  | .reject _ => false
  | .instr i =>
    decide (i.fields = resolvedFields (special machineConfig (pair op b2) 0 2 esc))
      && decide (encodeAtCursor i = [op, b2]) && (i.escaped == esc) && i.resolved && i.wellFormed

theorem pair_F6 (b2 : Byte) : pairMatches false 0xF6#8 b2 = true := by revert b2; decide +kernel
theorem pair_F7 (b2 : Byte) : pairMatches false 0xF7#8 b2 = true := by revert b2; decide +kernel
theorem pair_01 (b2 : Byte) : pairMatches true 0x01#8 b2 = true := by revert b2; decide +kernel
theorem pair_38 (b2 : Byte) : pairMatches true 0x38#8 b2 = true := by revert b2; decide +kernel
theorem pair_3A (b2 : Byte) : pairMatches true 0x3A#8 b2 = true := by revert b2; decide +kernel

/-- The `multi` entries of the default `T1` are `F6` and `F7` (R114, R115). -/
theorem t1_multi_cases (b : Byte) : (machineConfig.t1 b).multi = true → b = 0xF6#8 ∨ b = 0xF7#8 := by
  revert b; decide +kernel

/-- The `multi` entries of the default `T2` are `01`, `38` and `3A` (R118 to R120). -/
theorem t2_multi_cases (b : Byte) :
    (machineConfig.t2 b).multi = true → b = 0x01#8 ∨ b = 0x38#8 ∨ b = 0x3A#8 := by
  revert b; decide +kernel

/-- Every pair of a `multi` opcode and a second byte has the row that the resolver gives it. -/
theorem decode_pair_row {esc : Bool} {op : Byte}
    (h : (if esc then machineConfig.t2 op else machineConfig.t1 op).multi = true) (b2 : Byte) :
    ∃ i, decode esc true [op, b2] = .instr i ∧
      i.fields = resolvedFields (special machineConfig (pair op b2) 0 2 esc) ∧
      encodeAtCursor i = [op, b2] ∧ i.escaped = esc ∧ i.resolved = true ∧ WellFormed i := by
  have hp : pairMatches esc op b2 = true := by
    cases esc
    · obtain rfl | rfl := t1_multi_cases op h
      · exact pair_F6 b2
      · exact pair_F7 b2
    · obtain rfl | rfl | rfl := t2_multi_cases op h
      · exact pair_01 b2
      · exact pair_38 b2
      · exact pair_3A b2
  unfold pairMatches at hp
  split at hp
  · exact absurd hp Bool.false_ne_true
  · rename_i i hi
    simp only [Bool.and_eq_true, decide_eq_true_eq, beq_iff_eq] at hp
    obtain ⟨⟨⟨⟨h1, h2⟩, h3⟩, h4⟩, h5⟩ := hp
    exact ⟨i, hi, h1, h2, h3, h4, h5⟩

/-- The default `T2` tags no byte `PFX` (R123). -/
theorem t2_no_pfx (b : Byte) : (machineConfig.t2 b).cat ≠ .PFX := by
  revert b; decide +kernel

/-- A `multi` entry of the default tables is no `PFX` entry. -/
theorem t1_multi_not_pfx (b : Byte) : (machineConfig.t1 b).multi = true → (machineConfig.t1 b).cat ≠ .PFX := by
  revert b; decide +kernel

end Sys2Proof.Machine
end

