-- ==== Sys2Proof/Laws/State.lean ====
section
/-! SUPPORT. One lemma per field of the state and per update, true by `rfl`. -/

set_option linter.unusedSimpArgs false

namespace Sys2Proof.Machine

@[simp] theorem driveUnspecified_phase (s : State) : (s.driveUnspecified).phase = s.phase := rfl
@[simp] theorem driveUnspecified_ctx (s : State) : (s.driveUnspecified).ctx = s.ctx := rfl
@[simp] theorem driveUnspecified_pos (s : State) : (s.driveUnspecified).pos = s.pos := rfl
@[simp] theorem driveUnspecified_outValid (s : State) : (s.driveUnspecified).outValid = Config.freeOutValid s.freeDraw := rfl
@[simp] theorem driveUnspecified_outLen (s : State) : (s.driveUnspecified).outLen = Config.freeOutLen s.freeDraw := rfl
@[simp] theorem driveUnspecified_inLen (s : State) : (s.driveUnspecified).inLen = s.inLen := rfl
@[simp] theorem driveUnspecified_mem (s : State) : (s.driveUnspecified).mem = s.mem := rfl
@[simp] theorem driveUnspecified_freeDraw (s : State) : (s.driveUnspecified).freeDraw = s.freeDraw + 1 := rfl
@[simp] theorem driveUnspecified_byte (s : State) (i : Nat) : (s.driveUnspecified).byte i = s.byte i := rfl
@[simp] theorem driveUnspecified_window (s : State) : (s.driveUnspecified).window = s.window := rfl

@[simp] theorem takeDecodeFailure_phase (c : Cause) (s : State) : (takeDecodeFailure c s).phase = Phase.idle := rfl
@[simp] theorem takeDecodeFailure_ctx (c : Cause) (s : State) : (takeDecodeFailure c s).ctx = s.ctx := rfl
@[simp] theorem takeDecodeFailure_pos (c : Cause) (s : State) : (takeDecodeFailure c s).pos = s.pos := rfl
@[simp] theorem takeDecodeFailure_outValid (c : Cause) (s : State) : (takeDecodeFailure c s).outValid = false := rfl
@[simp] theorem takeDecodeFailure_outLen (c : Cause) (s : State) : (takeDecodeFailure c s).outLen = 0 := rfl
@[simp] theorem takeDecodeFailure_inLen (c : Cause) (s : State) : (takeDecodeFailure c s).inLen = s.inLen := rfl
@[simp] theorem takeDecodeFailure_mem (c : Cause) (s : State) : (takeDecodeFailure c s).mem = s.mem := rfl
@[simp] theorem takeDecodeFailure_freeDraw (c : Cause) (s : State) : (takeDecodeFailure c s).freeDraw = s.freeDraw := rfl
@[simp] theorem takeDecodeFailure_byte (c : Cause) (s : State) (i : Nat) : (takeDecodeFailure c s).byte i = s.byte i := rfl
@[simp] theorem takeDecodeFailure_window (c : Cause) (s : State) : (takeDecodeFailure c s).window = s.window := rfl

@[simp] theorem consumeByte_phase (flag : Ctx → Ctx) (next : Phase) (s : State) : (consumeByte flag next s).phase = next := rfl
@[simp] theorem consumeByte_ctx (flag : Ctx → Ctx) (next : Phase) (s : State) : (consumeByte flag next s).ctx = flag s.ctx.count := rfl
@[simp] theorem consumeByte_pos (flag : Ctx → Ctx) (next : Phase) (s : State) : (consumeByte flag next s).pos = (flag s.ctx.count).pfx := rfl
@[simp] theorem consumeByte_outValid (flag : Ctx → Ctx) (next : Phase) (s : State) : (consumeByte flag next s).outValid = Config.freeOutValid s.freeDraw := rfl
@[simp] theorem consumeByte_outLen (flag : Ctx → Ctx) (next : Phase) (s : State) : (consumeByte flag next s).outLen = Config.freeOutLen s.freeDraw := rfl
@[simp] theorem consumeByte_inLen (flag : Ctx → Ctx) (next : Phase) (s : State) : (consumeByte flag next s).inLen = s.inLen := rfl
@[simp] theorem consumeByte_mem (flag : Ctx → Ctx) (next : Phase) (s : State) : (consumeByte flag next s).mem = s.mem := rfl
@[simp] theorem consumeByte_freeDraw (flag : Ctx → Ctx) (next : Phase) (s : State) : (consumeByte flag next s).freeDraw = s.freeDraw + 1 := rfl
@[simp] theorem consumeByte_byte (flag : Ctx → Ctx) (next : Phase) (s : State) (i : Nat) : (consumeByte flag next s).byte i = s.byte i := rfl
@[simp] theorem consumeByte_window (flag : Ctx → Ctx) (next : Phase) (s : State) : (consumeByte flag next s).window = s.window := rfl

@[simp] theorem advance_phase (opc : Nat) (s : State) : (s.advance opc).phase = s.phase := rfl
@[simp] theorem advance_ctx (opc : Nat) (s : State) : (s.advance opc).ctx = s.ctx := rfl
@[simp] theorem advance_pos (opc : Nat) (s : State) : (s.advance opc).pos = BitVec.ofNat 4 (s.ctx.pfx.toNat + opc) := rfl
@[simp] theorem advance_outValid (opc : Nat) (s : State) : (s.advance opc).outValid = s.outValid := rfl
@[simp] theorem advance_outLen (opc : Nat) (s : State) : (s.advance opc).outLen = s.outLen := rfl
@[simp] theorem advance_inLen (opc : Nat) (s : State) : (s.advance opc).inLen = s.inLen := rfl
@[simp] theorem advance_mem (opc : Nat) (s : State) : (s.advance opc).mem = s.mem := rfl
@[simp] theorem advance_freeDraw (opc : Nat) (s : State) : (s.advance opc).freeDraw = s.freeDraw := rfl
@[simp] theorem advance_byte (opc : Nat) (s : State) (i : Nat) : (s.advance opc).byte i = s.byte i := rfl
@[simp] theorem advance_window (opc : Nat) (s : State) : (s.advance opc).window = s.window := rfl

@[simp] theorem hardwareReset_phase (s : State) : (hardwareReset s).phase = Phase.idle := rfl
@[simp] theorem hardwareReset_ctx (s : State) : (hardwareReset s).ctx = Ctx.zero := rfl
@[simp] theorem hardwareReset_pos (s : State) : (hardwareReset s).pos = 0 := rfl
@[simp] theorem hardwareReset_outValid (s : State) : (hardwareReset s).outValid = false := rfl
@[simp] theorem hardwareReset_outLen (s : State) : (hardwareReset s).outLen = 0 := rfl
@[simp] theorem hardwareReset_inLen (s : State) : (hardwareReset s).inLen = s.inLen := rfl
@[simp] theorem hardwareReset_mem (s : State) : (hardwareReset s).mem = s.mem := rfl
@[simp] theorem hardwareReset_freeDraw (s : State) : (hardwareReset s).freeDraw = s.freeDraw := rfl
@[simp] theorem hardwareReset_byte (s : State) (i : Nat) : (hardwareReset s).byte i = s.byte i := rfl
@[simp] theorem hardwareReset_window (s : State) : (hardwareReset s).window = s.window := rfl

@[simp] theorem startTransaction_phase (bs : List Byte) (len : Nat) (s : State) : (startTransaction bs len s).phase = Phase.prefixPhase := rfl
@[simp] theorem startTransaction_ctx (bs : List Byte) (len : Nat) (s : State) : (startTransaction bs len s).ctx = Ctx.zero := rfl
@[simp] theorem startTransaction_pos (bs : List Byte) (len : Nat) (s : State) : (startTransaction bs len s).pos = 0 := rfl
@[simp] theorem startTransaction_outValid (bs : List Byte) (len : Nat) (s : State) : (startTransaction bs len s).outValid = Config.freeOutValid s.freeDraw := rfl
@[simp] theorem startTransaction_outLen (bs : List Byte) (len : Nat) (s : State) : (startTransaction bs len s).outLen = Config.freeOutLen s.freeDraw := rfl
@[simp] theorem startTransaction_inLen (bs : List Byte) (len : Nat) (s : State) : (startTransaction bs len s).inLen = len := rfl
@[simp] theorem startTransaction_mem (bs : List Byte) (len : Nat) (s : State) : (startTransaction bs len s).mem = Memory.ofBytes bs := rfl
@[simp] theorem startTransaction_freeDraw (bs : List Byte) (len : Nat) (s : State) : (startTransaction bs len s).freeDraw = s.freeDraw + 1 := rfl
@[simp] theorem startTransaction_byte (bs : List Byte) (len : Nat) (s : State) (i : Nat) : (startTransaction bs len s).byte i = (Memory.ofBytes bs).read i := rfl
@[simp] theorem startTransaction_window (bs : List Byte) (len : Nat) (s : State) : (startTransaction bs len s).window = min len maxLen := rfl

/-! ### The two conditional operations -/

theorem returnLength_truncated {L : Nat} {s : State} (h : s.window < L) :
    returnLength L s = takeDecodeFailure .truncated s := if_pos h

theorem returnLength_valid {L : Nat} {s : State} (h : L ≤ s.window) :
    returnLength L s = { s with phase := .idle, outValid := true, outLen := BitVec.ofNat 4 L } :=
  if_neg (Nat.not_lt.mpr h)

theorem enterResolver_short {s : State} (h : s.window - s.ctx.pfx.toNat < 2) :
    enterResolver s = takeDecodeFailure .specialShort s := if_pos h

theorem enterResolver_ready {s : State} (h : s.ctx.pfx.toNat + 2 ≤ s.window) :
    enterResolver s = State.driveUnspecified { s with phase := .lengthPhase } :=
  if_neg (by omega)

theorem window_le_len (s : State) : s.window ≤ s.inLen := Nat.min_le_left _ _

theorem window_le_fifteen (s : State) : s.window ≤ 15 := Nat.min_le_right _ _

/-! ### The Decode Context -/

@[simp] theorem Ctx.zero_pfx : Ctx.zero.pfx = 0 := rfl
@[simp] theorem Ctx.zero_esc : Ctx.zero.esc = false := rfl
@[simp] theorem Ctx.count_pfx (x : Ctx) : x.count.pfx = x.pfx + 1 := rfl
@[simp] theorem Ctx.count_esc (x : Ctx) : x.count.esc = x.esc := rfl
@[simp] theorem Ctx.count_op16 (x : Ctx) : x.count.op16 = x.op16 := rfl
@[simp] theorem Ctx.count_addr16 (x : Ctx) : x.count.addr16 = x.addr16 := rfl
@[simp] theorem Ctx.count_rexw (x : Ctx) : x.count.rexw = x.rexw := rfl

/-- R191: every consumed byte is counted, whatever its class. -/
@[simp] theorem Ctx.consume_pfx (x : Ctx) (b : Byte) : (x.consume b).pfx = x.pfx + 1 := by
  dsimp only [Ctx.consume]
  repeat' split
  all_goals rfl

/-- R194: only the escape byte sets `esc`. -/
theorem Ctx.consume_esc (x : Ctx) (b : Byte) : (x.consume b).esc = (x.esc || decide (b = 0x0F#8)) := by
  dsimp only [Ctx.consume]
  repeat' split
  all_goals simp_all [Ctx.setEsc, Ctx.setOp16, Ctx.setAddr16, Ctx.setRexw]

/-- R195: only `66` sets `op16`. -/
theorem Ctx.consume_op16 (x : Ctx) (b : Byte) : (x.consume b).op16 = (x.op16 || decide (b = 0x66#8)) := by
  dsimp only [Ctx.consume]
  repeat' split
  all_goals simp_all [Ctx.setEsc, Ctx.setOp16, Ctx.setAddr16, Ctx.setRexw]

/-- R196: only `67` sets `addr16`. -/
theorem Ctx.consume_addr16 (x : Ctx) (b : Byte) :
    (x.consume b).addr16 = (x.addr16 || decide (b = 0x67#8)) := by
  dsimp only [Ctx.consume]
  repeat' split
  all_goals simp_all [Ctx.setEsc, Ctx.setOp16, Ctx.setAddr16, Ctx.setRexw]

/-- R197: only `48` to `4F` set `rexw`. -/
theorem Ctx.consume_rexw (x : Ctx) (b : Byte) :
    (x.consume b).rexw = (x.rexw || decide (0x48#8 ≤ b ∧ b ≤ 0x4F#8)) := by
  dsimp only [Ctx.consume]
  repeat' split
  all_goals simp_all [Ctx.setEsc, Ctx.setOp16, Ctx.setAddr16, Ctx.setRexw]

/-- R197: a REX.W form is counted and sets `rexw`. -/
theorem Ctx.consume_rexwForm (x : Ctx) {b : Byte} (h : 0x48#8 ≤ b ∧ b ≤ 0x4F#8) :
    x.consume b = x.count.setRexw := by
  have h1 : b ≠ 0x0F#8 := by rintro rfl; exact absurd h.1 (by decide)
  have h2 : b ≠ 0x66#8 := by rintro rfl; exact absurd h.2 (by decide)
  have h3 : b ≠ 0x67#8 := by rintro rfl; exact absurd h.2 (by decide)
  simp only [Ctx.consume, h1, h2, h3, h, if_false, if_true, and_self]

/-- R198: every other byte is counted and nothing else. -/
theorem Ctx.consume_untracked (x : Ctx) {b : Byte} (h1 : b ≠ 0x0F#8) (h2 : b ≠ 0x66#8) (h3 : b ≠ 0x67#8)
    (h4 : ¬(0x48#8 ≤ b ∧ b ≤ 0x4F#8)) : x.consume b = x.count := by
  simp only [Ctx.consume, h1, h2, h3, h4, if_false]

end Sys2Proof.Machine
end

