-- ==== Sys2Proof/Laws/Exec.lean ====
section
/-! SUPPORT. What every row of the opcode table does, by its `fields`: the one place where `exec` is taken apart.  The
provers cite these lemmas instead of unfolding the 248 meanings. -/

namespace Sys2Proof.Machine

/-- The byte of a `PFX` row, and 0 for any other row. -/
def prefixRowByte (i : Instr) : Byte := (encodeAtCursor i).headD 0

/-- Every row answers a next state. -/
theorem exec_next (i : Instr) (s : State) : ∃ t, exec i s = .next t := by
  cases i <;> exact ⟨_, rfl⟩

/-- A row whose entry is final and no prefix resolves its length (R201); a second byte in no list (R172 to R174)
ends as an invalid opcode does, since no cause is kept (R232). -/
theorem exec_final {i : Instr} (s : State) (hm : i.fields.entry.multi = false)
    (hp : i.fields.entry.cat ≠ .PFX) :
    exec i s = .next (resolveLength i.fields.entry.cat i.fields.entry.imm64 i.fields.extra s) := by
  cases i <;> first
    | rfl
    | exact absurd rfl hp
    | exact absurd hm.symm Bool.false_ne_true

/-- A row flagged `multi` hands over to the resolver (R171, R199). -/
theorem exec_multi {i : Instr} (s : State) (hm : i.fields.entry.multi = true) :
    exec i s = .next (enterResolver s) := by
  cases i <;> first
    | rfl
    | exact absurd hm Bool.false_ne_true

/-- A `PFX` row consumes its byte (R191, R194 to R198). -/
theorem exec_pfx {i : Instr} (s : State) (hc : i.fields.entry.cat = .PFX) :
    exec i s = .next (State.driveUnspecified
      { s with
        phase := if prefixRowByte i = 0x0F#8 then .opcodePhase else .prefixPhase
        ctx := s.ctx.consume (prefixRowByte i)
        pos := s.ctx.pfx + 1 }) := by
  cases i
  case op1_40_47 lo =>
    obtain ⟨h1, h2, h3, h4⟩ : (0x40#8 + lo.setWidth 8 ≠ 0x0F#8) ∧ (0x40#8 + lo.setWidth 8 ≠ 0x66#8) ∧
        (0x40#8 + lo.setWidth 8 ≠ 0x67#8) ∧
        ¬(0x48#8 ≤ 0x40#8 + lo.setWidth 8 ∧ 0x40#8 + lo.setWidth 8 ≤ 0x4F#8) := by
      revert lo; decide +kernel
    have hb : prefixRowByte (.op1_40_47 lo) = 0x40#8 + lo.setWidth 8 := rfl
    rw [hb, if_neg h1, Ctx.consume_untracked _ h1 h2 h3 h4]; rfl
  case op1_48_4F lo =>
    obtain ⟨h1, h4⟩ : (0x48#8 + lo.setWidth 8 ≠ 0x0F#8) ∧
        (0x48#8 ≤ 0x48#8 + lo.setWidth 8 ∧ 0x48#8 + lo.setWidth 8 ≤ 0x4F#8) := by
      revert lo; decide +kernel
    have hb : prefixRowByte (.op1_48_4F lo) = 0x48#8 + lo.setWidth 8 := rfl
    rw [hb, if_neg h1, Ctx.consume_rexwForm _ h4]; rfl
  case op1_64_65 lo =>
    obtain ⟨h1, h2, h3, h4⟩ : (0x64#8 + lo.setWidth 8 ≠ 0x0F#8) ∧ (0x64#8 + lo.setWidth 8 ≠ 0x66#8) ∧
        (0x64#8 + lo.setWidth 8 ≠ 0x67#8) ∧
        ¬(0x48#8 ≤ 0x64#8 + lo.setWidth 8 ∧ 0x64#8 + lo.setWidth 8 ≤ 0x4F#8) := by
      revert lo; decide +kernel
    have hb : prefixRowByte (.op1_64_65 lo) = 0x64#8 + lo.setWidth 8 := rfl
    rw [hb, if_neg h1, Ctx.consume_untracked _ h1 h2 h3 h4]; rfl
  case op1_F2_F3 lo =>
    obtain ⟨h1, h2, h3, h4⟩ : (0xF2#8 + lo.setWidth 8 ≠ 0x0F#8) ∧ (0xF2#8 + lo.setWidth 8 ≠ 0x66#8) ∧
        (0xF2#8 + lo.setWidth 8 ≠ 0x67#8) ∧
        ¬(0x48#8 ≤ 0xF2#8 + lo.setWidth 8 ∧ 0xF2#8 + lo.setWidth 8 ≤ 0x4F#8) := by
      revert lo; decide +kernel
    have hb : prefixRowByte (.op1_F2_F3 lo) = 0xF2#8 + lo.setWidth 8 := rfl
    rw [hb, if_neg h1, Ctx.consume_untracked _ h1 h2 h3 h4]; rfl
  all_goals first
    | rfl
    | nomatch hc

end Sys2Proof.Machine
end

