-- ==== Sys2Proof/Laws/Step.lean ====
section
/-! SUPPORT. What one step can do, said once and in terms of the tables: wait, run out of window, consume a prefix
byte, hand over to the resolver, resolve a length, or resolve a pair. -/

namespace Sys2Proof.Machine

theorem step_idle {s : State} (h : s.phase = .idle) : step s = .next s := by
  unfold step; rw [h]

theorem step_running {s : State} (h : s.running) :
    step s = match s.decodeAtCursor with
      | .instr i => exec i s
      | .reject r => .next (takeDecodeFailure (rejectCause r) s) := by
  unfold step; cases hp : s.phase <;> first | rfl | exact absurd hp h

theorem resolving_eq_false {s : State} (h : s.phase ≠ .lengthPhase) : s.resolving = false :=
  decide_eq_false h

theorem resolving_eq_true {s : State} (h : s.phase = .lengthPhase) : s.resolving = true :=
  decide_eq_true h

theorem buf_inside {s : State} {i : Nat} (h : i < s.window) : s.buf i = some (s.byte i) := if_pos h

theorem buf_outside {s : State} {i : Nat} (h : s.window ≤ i) : s.buf i = none := if_neg (by omega)

/-- R192: the window is exhausted at the cursor. -/
theorem step_exhausted {s : State} (hr : s.running) (h : s.window ≤ s.pos.toNat) :
    step s = .next (takeDecodeFailure .noOpcode s) := by
  rw [step_running hr]
  have hb : s.bytesAt s.pos.toNat s.examined = [] := by
    unfold State.examined
    split <;> simp [State.bytesAt, buf_outside h]
  simp [State.decodeAtCursor, hb, decode, rejectCause]

/-- The table lookup at the cursor (R193). -/
theorem decodeAtCursor_entry {s : State} (hl : s.phase ≠ .lengthPhase) (h : s.pos.toNat < s.window) :
    s.decodeAtCursor = decodeEntry s.ctx.esc (s.byte s.pos.toNat) := by
  have hres := resolving_eq_false hl
  simp [State.decodeAtCursor, State.examined, hres, State.bytesAt, buf_inside h, decode]

/-- The step at a byte of the active table, by the byte's entry. -/
theorem step_entry {s : State} (hr : s.running) (hl : s.phase ≠ .lengthPhase)
    (h : s.pos.toNat < s.window) {e : Entry}
    (he : activeEntry machineConfig s.ctx (s.byte s.pos.toNat) = e) :
    (e.cat = .PFX → step s = .next (State.driveUnspecified
        { s with
          phase := if s.byte s.pos.toNat = 0x0F#8 then .opcodePhase else .prefixPhase
          ctx := s.ctx.consume (s.byte s.pos.toNat)
          pos := s.ctx.pfx + 1 })) ∧
    (e.multi = true → step s = .next (enterResolver s)) ∧
    (e.multi = false → e.cat ≠ .PFX → step s = .next (resolveLength e.cat e.imm64 0 s)) := by
  obtain ⟨i, hi, hf, hb, -, -, -⟩ := decodeEntry_row s.ctx.esc (s.byte s.pos.toNat)
  have hs : step s = exec i s := by rw [step_running hr, decodeAtCursor_entry hl h, hi]
  have hf' : i.fields = ⟨e, 0⟩ := by rw [hf, ← he]; rfl
  have hpb : prefixRowByte i = s.byte s.pos.toNat := by rw [prefixRowByte, hb]; rfl
  refine ⟨fun hc => ?_, fun hm => ?_, fun hm hc => ?_⟩
  · rw [hs, exec_pfx s (by rw [hf']; exact hc), hpb]
  · rw [hs, exec_multi s (by rw [hf']; exact hm)]
  · rw [hs, exec_final s (by rw [hf']; exact hm) (by rw [hf']; exact hc), hf']

/-- The step that resolves a pair (R178, R199). -/
theorem step_pair {s : State} (hl : s.phase = .lengthPhase) (h : s.pos.toNat + 2 ≤ s.window)
    (hm : (activeEntry machineConfig s.ctx (s.byte s.pos.toNat)).multi = true) :
    step s = .next (match special machineConfig s.byte s.pos.toNat (s.window - s.pos.toNat) s.ctx.esc with
      | .found cat extra => resolveLength cat false extra s
      | .failed cause => takeDecodeFailure cause s) := by
  have hr : s.running := by rw [State.running, hl]; decide
  obtain ⟨i, hi, hf, -, -, hres, -⟩ := decode_pair_row (esc := s.ctx.esc) hm (s.byte (s.pos.toNat + 1))
  have hd : s.decodeAtCursor = .instr i := by
    have h1 : s.pos.toNat < s.window := by omega
    have h2 : s.pos.toNat + 1 < s.window := by omega
    simpa [State.decodeAtCursor, State.examined, resolving_eq_true hl, State.bytesAt, buf_inside h1,
      buf_inside h2] using hi
  have hs : step s = exec i s := by rw [step_running hr, hd]
  rw [special_pair machineConfig s.byte _ _ _ (by omega), hs]
  have hcat : i.fields.entry.multi = false ∧ i.fields.entry.cat ≠ .PFX := by
    rw [hf]
    cases h : special machineConfig (pair (s.byte s.pos.toNat) (s.byte (s.pos.toNat + 1))) 0 2 s.ctx.esc with
    | found cat extra => exact ⟨rfl, fun hc => by have := (special_found h).1; rw [show cat = .PFX from hc] at this; nomatch this⟩
    | failed cause => exact ⟨rfl, fun hc => nomatch hc⟩
  rw [exec_final s hcat.1 hcat.2, hf]
  cases special machineConfig (pair (s.byte s.pos.toNat) (s.byte (s.pos.toNat + 1))) 0 2 s.ctx.esc <;> rfl

end Sys2Proof.Machine
end

