-- ==== Sys2Proof/Laws/Caller.lean ====
section
/-! SUPPORT. Runs of one block and interleavings of several: a run cut after its first step, a run of a waiting block,
and what one step of one block does to the list of blocks. -/

namespace Sys2Proof.Machine

/-- A waiting block stays as it is (R261). -/
theorem runSteps_idle {s : State} (h : s.phase = .idle) (k : Nat) : runSteps k s = s := by
  induction k with
  | zero => rfl
  | succ k ih => simp only [runSteps, step_idle h, ih]

/-- A run is its first step and then the rest, also where a step stops. -/
theorem runSteps_succ (k : Nat) (s : State) : runSteps (k + 1) s = runSteps k (runSteps 1 s) := by
  cases h : step s with
  | next t => simp only [runSteps, h]
  | fault r => nomatch r
  | refused r => cases k <;> simp only [runSteps, h]

/-- A step of block `k` is a step of block `k`. -/
theorem stepAt_self (k : Nat) (blocks : List State) : (stepAt k blocks)[k]? = blocks[k]?.map (runSteps 1) := by
  unfold stepAt
  cases h : blocks[k]? with
  | none => simp [h]
  | some s =>
    obtain ⟨hk, -⟩ := List.getElem?_eq_some_iff.mp h
    simp [hk]

/-- A step of block `k` leaves every other block as it is. -/
theorem stepAt_other {k j : Nat} (h : j ≠ k) (blocks : List State) : (stepAt k blocks)[j]? = blocks[j]? := by
  unfold stepAt
  split
  · rfl
  · rw [List.getElem?_set_ne (Ne.symm h)]

end Sys2Proof.Machine
end

