-- ==== Sys2Proof/Laws/Length.lean ====
section
/-! SUPPORT. What the shared operations of length resolution do, each said once: the two sizing operations, their frame,
and the bounds of the addressing size unit. -/

namespace Sys2Proof.Machine

/-! ### The addressing size unit -/

/-- The window test answers nothing beyond the window (R151, R161). -/
theorem fits_le (r rem : Nat) : fits r rem ≤ rem := by unfold fits; split <;> omega

/-- The size that does not pass the window test answers 0. -/
theorem fits_short {r rem : Nat} (h : rem < r) : fits r rem = 0 := if_pos h

theorem addr32_le (buf : Nat → Byte) (o rem : Nat) : addr32 buf o rem ≤ rem := by
  unfold addr32; dsimp only; repeat' split
  all_goals first
    | exact fits_le _ _
    | omega

theorem addr16_le (buf : Nat → Byte) (o rem : Nat) : addr16 buf o rem ≤ rem := by
  unfold addr16; dsimp only; repeat' split
  all_goals first
    | exact fits_le _ _
    | omega

/-- Whatever resolver `addr16` selects, its answer lies in the window. -/
theorem addrSize_le (x : Ctx) (buf : Nat → Byte) (o rem : Nat) : addrSize x buf o rem ≤ rem := by
  unfold addrSize; split
  · exact addr16_le _ _ _
  · exact addr32_le _ _ _

/-- `Addr32` is one size, chosen by the ModRM and SIB bytes alone, behind the window test: the guards on `rem` that
stand before the reads (R141, R146) change no answer. -/
theorem addr32_is_fits (buf : Nat → Byte) (o : Nat) : ∃ r ≥ 1, ∀ rem, addr32 buf o rem = fits r rem := by
  unfold addr32; dsimp only
  by_cases h3 : modField (buf o) = 3#2
  · refine ⟨1, Nat.le_refl _, fun rem => ?_⟩
    rw [if_pos h3]; split
    · rw [fits_short (by omega)]
    · rfl
  by_cases h0 : modField (buf o) = 0#2
  · by_cases h4 : rmField (buf o) = 4#3
    · have h2 : 2 ≤ sibSize (buf (o + 1)) := by unfold sibSize; split <;> omega
      refine ⟨sibSize (buf (o + 1)), by omega, fun rem => ?_⟩
      rw [if_neg h3, if_pos h0, if_pos h4]
      split
      · rw [fits_short (by omega)]
      · split
        · rw [fits_short (by omega)]
        · rfl
    · by_cases h5 : rmField (buf o) = 5#3
      · refine ⟨5, by omega, fun rem => ?_⟩
        rw [if_neg h3, if_pos h0, if_neg h4, if_pos h5]; split
        · rw [fits_short (by omega)]
        · rfl
      · refine ⟨1, by omega, fun rem => ?_⟩
        rw [if_neg h3, if_pos h0, if_neg h4, if_neg h5]; split
        · rw [fits_short (by omega)]
        · rfl
  by_cases h1 : modField (buf o) = 1#2
  · refine ⟨if rmField (buf o) = 4#3 then 3 else 2, by split <;> omega, fun rem => ?_⟩
    rw [if_neg h3, if_neg h0, if_pos h1]; split
    · rw [fits_short]; split <;> omega
    · rfl
  · refine ⟨if rmField (buf o) = 4#3 then 6 else 5, by split <;> omega, fun rem => ?_⟩
    rw [if_neg h3, if_neg h0, if_neg h1]; split
    · rw [fits_short]; split <;> omega
    · rfl

/-! ### The two sizing operations -/

/-- The arms without a ModRM byte: the length on the ports, or `Invalid`, and the cursor behind the opcode. -/
theorem sizePlain_cases (bytes extra : Nat) (s : State) :
    (s.ctx.pfx.toNat + bytes + extra ≤ s.window → sizePlain bytes extra s = { s with
      phase := .idle
      pos := BitVec.ofNat 4 (s.ctx.pfx.toNat + (1 + extra))
      outValid := true
      outLen := BitVec.ofNat 4 (s.ctx.pfx.toNat + bytes + extra) }) ∧
    (s.window < s.ctx.pfx.toNat + bytes + extra → sizePlain bytes extra s = { s with
      phase := .idle
      pos := BitVec.ofNat 4 (s.ctx.pfx.toNat + (1 + extra))
      outValid := false
      outLen := 0 }) := by
  constructor <;> intro h <;> unfold sizePlain
  · rw [returnLength_valid (by simpa using h)]; rfl
  · rw [returnLength_truncated (by simpa using h)]; rfl

/-- The ModRM arms, by the answer `a` of the addressing resolver. -/
theorem sizeModRM_cases (extra imm : Nat) (s : State) :
    let o := s.ctx.pfx.toNat + (1 + extra)
    let a := addrSize s.ctx s.byte o (s.window - o)
    (a ≠ 0 → o + a + imm ≤ s.window → sizeModRM extra imm s = { s with
      phase := .idle, pos := BitVec.ofNat 4 o, outValid := true, outLen := BitVec.ofNat 4 (o + a + imm) }) ∧
    (a = 0 ∨ s.window < o + a + imm → sizeModRM extra imm s = { s with
      phase := .idle, pos := BitVec.ofNat 4 o, outValid := false, outLen := 0 }) := by
  intro o a
  have ha : addrSize s.ctx s.byte (s.ctx.pfx.toNat + (1 + extra)) (s.window - (s.ctx.pfx.toNat + (1 + extra))) = a := rfl
  unfold sizeModRM
  simp only [ha]
  refine ⟨fun h1 h2 => ?_, fun h => ?_⟩
  · simp only [h1, if_false]
    rw [returnLength_valid (by simpa using h2)]; rfl
  · by_cases h0 : a = 0
    · simp only [h0, if_true]; rfl
    · simp only [h0, if_false]
      rw [returnLength_truncated (by simpa using h.resolve_left h0)]; rfl

/-! ### Frames -/

theorem sizePlain_frame (bytes extra : Nat) (s : State) :
    (sizePlain bytes extra s).phase = .idle ∧ (sizePlain bytes extra s).ctx = s.ctx ∧
    (sizePlain bytes extra s).inLen = s.inLen ∧ (sizePlain bytes extra s).mem = s.mem := by
  unfold sizePlain returnLength; split <;> exact ⟨rfl, rfl, rfl, rfl⟩

theorem sizeModRM_frame (extra imm : Nat) (s : State) :
    (sizeModRM extra imm s).phase = .idle ∧ (sizeModRM extra imm s).ctx = s.ctx ∧
    (sizeModRM extra imm s).inLen = s.inLen ∧ (sizeModRM extra imm s).mem = s.mem := by
  unfold sizeModRM returnLength; dsimp only; repeat' split
  all_goals exact ⟨rfl, rfl, rfl, rfl⟩

/-- Length resolution ends the transaction and writes neither the context nor the caller's inputs (R25, R51). -/
theorem resolveLength_frame (cat : Category) (imm64 : Bool) (extra : Nat) (s : State) :
    (resolveLength cat imm64 extra s).phase = .idle ∧ (resolveLength cat imm64 extra s).ctx = s.ctx ∧
    (resolveLength cat imm64 extra s).inLen = s.inLen ∧ (resolveLength cat imm64 extra s).mem = s.mem := by
  cases cat <;> first
    | exact sizePlain_frame _ _ _
    | exact sizeModRM_frame _ _ _
    | exact ⟨rfl, rfl, rfl, rfl⟩

/-- The hand-over to the resolver writes neither the context nor the caller's inputs. -/
theorem enterResolver_frame (s : State) :
    (enterResolver s).ctx = s.ctx ∧ (enterResolver s).pos = s.pos ∧ (enterResolver s).inLen = s.inLen ∧
    (enterResolver s).mem = s.mem := by
  unfold enterResolver; split <;> exact ⟨rfl, rfl, rfl, rfl⟩

end Sys2Proof.Machine
end

