-- ==== Sys2Proof/Laws/Memory.lean ====
section
/-! SUPPORT. The buffer: a read after a write, the canonical form, and a buffer built from a byte string. -/

namespace Sys2Proof.Machine

namespace MemoryLaws

/-- Every listed offset of a canonical memory is at or above its first. -/
theorem wf_tail {a : Host.Cell} {m : Memory} (h : Memory.wf (a :: m) = true) : m.wf = true := by
  cases m with
  | nil => rfl
  | cons c m => simp [Memory.wf] at h; exact h.2

theorem wf_cons_iff {i : Nat} {b : Byte} {m : Memory} :
    Memory.wf ((i, b) :: m) = true ↔
      b ≠ Memory.unlisted ∧ m.wf = true ∧ ∀ c ∈ m.head?, i < c.1 := by
  cases m with
  | nil => simp [Memory.wf]
  | cons c m => obtain ⟨j, d⟩ := c; simp [Memory.wf]; tauto

/-- Below the first listed offset everything reads as unlisted. -/
theorem read_below {m : Memory} (h : m.wf = true) {i : Nat} (hi : ∀ c ∈ m.head?, i < c.1) :
    m.read i = Memory.unlisted := by
  induction m with
  | nil => rfl
  | cons a m ih =>
    obtain ⟨j, d⟩ := a
    have hj : i < j := hi (j, d) rfl
    have ⟨_, hm, ht⟩ := wf_cons_iff.mp h
    have hne : j ≠ i := by omega
    simp only [Memory.read, hne, if_false]
    exact ih hm fun c hc => by have := ht c hc; omega

/-- What a write reads back as. -/
theorem read_write_same {m : Memory} (h : m.wf = true) (i : Nat) (b : Byte) : (m.write i b).read i = b := by
  induction m with
  | nil => by_cases hb : b = Memory.unlisted <;> simp [Memory.write, Memory.read, hb]
  | cons a m ih =>
    obtain ⟨j, d⟩ := a
    have ⟨_, hm, ht⟩ := wf_cons_iff.mp h
    unfold Memory.write
    split
    · rename_i hij
      split
      · rename_i hb; rw [hb]; exact read_below h fun c hc => by simp at hc; subst hc; exact hij
      · simp [Memory.read]
    · split
      · rename_i hij; subst hij
        split
        · rename_i hb; rw [hb]; exact read_below hm ht
        · simp [Memory.read]
      · rename_i h1 h2
        have : j ≠ i := fun e => h2 e.symm
        simp only [Memory.read, this, if_false]; exact ih hm

/-- A write leaves every other offset alone. -/
theorem read_write_other (m : Memory) {i k : Nat} (b : Byte) (hk : k ≠ i) :
    (m.write i b).read k = m.read k := by
  induction m with
  | nil => by_cases hb : b = Memory.unlisted <;> simp [Memory.write, Memory.read, hb, hk.symm]
  | cons a m ih =>
    obtain ⟨j, d⟩ := a
    unfold Memory.write
    split
    · split <;> simp [Memory.read, hk.symm]
    · split
      · rename_i hij; subst hij
        split <;> simp [Memory.read, hk.symm]
      · simp only [Memory.read]; split <;> simp_all

theorem write_head {m : Memory} {i k : Nat} {b : Byte} (hi : k < i) (h : ∀ c ∈ m.head?, k < c.1) :
    m.wf = true → ∀ c ∈ (m.write i b).head?, k < c.1 := by
  cases m with
  | nil => intro _ c hc; by_cases hb : b = Memory.unlisted <;> simp [Memory.write, hb] at hc; subst hc; exact hi
  | cons a m =>
    obtain ⟨j, d⟩ := a
    intro hw c hc
    have hj : k < j := h (j, d) rfl
    have ⟨_, _, ht⟩ := wf_cons_iff.mp hw
    unfold Memory.write at hc
    split at hc
    · split at hc <;> simp at hc <;> subst hc <;> assumption
    · split at hc
      · split at hc
        · have := ht c hc; omega
        · simp at hc; subst hc; exact hi
      · simp at hc; subst hc; exact hj

/-- A write keeps the canonical form. -/
theorem write_wf {m : Memory} (h : m.wf = true) (i : Nat) (b : Byte) : (m.write i b).wf = true := by
  induction m with
  | nil => by_cases hb : b = Memory.unlisted <;> simp [Memory.write, Memory.wf, hb]
  | cons a m ih =>
    obtain ⟨j, d⟩ := a
    have ⟨hd, hm, ht⟩ := wf_cons_iff.mp h
    unfold Memory.write
    split
    · rename_i hij
      split
      · exact h
      · rename_i hb; exact wf_cons_iff.mpr ⟨hb, h, fun c hc => by simp at hc; subst hc; exact hij⟩
    · split
      · rename_i hij; subst hij
        split
        · exact hm
        · rename_i hb; exact wf_cons_iff.mpr ⟨hb, hm, ht⟩
      · rename_i h1 h2
        exact wf_cons_iff.mpr ⟨hd, ih hm, write_head (by omega) ht hm⟩

theorem ofBytesAt_head (k : Nat) (bs : List Byte) : ∀ c ∈ (Memory.ofBytesAt k bs).head?, k ≤ c.1 := by
  induction bs generalizing k with
  | nil => simp [Memory.ofBytesAt]
  | cons b bs ih =>
    intro c hc
    unfold Memory.ofBytesAt at hc
    split at hc
    · have := ih (k + 1) c hc; omega
    · simp at hc; subst hc; exact Nat.le_refl k

theorem ofBytesAt_wf (k : Nat) (bs : List Byte) : (Memory.ofBytesAt k bs).wf = true := by
  induction bs generalizing k with
  | nil => rfl
  | cons b bs ih =>
    unfold Memory.ofBytesAt
    split
    · exact ih _
    · rename_i hb
      exact wf_cons_iff.mpr ⟨hb, ih _, fun c hc => by have := ofBytesAt_head (k + 1) bs c hc; omega⟩

/-- A buffer built from a byte string is canonical. -/
theorem ofBytes_wf (bs : List Byte) : (Memory.ofBytes bs).wf = true := ofBytesAt_wf 0 bs

theorem read_ofBytesAt (k : Nat) (bs : List Byte) (i : Nat) :
    (Memory.ofBytesAt k bs).read (k + i) = bs.getD i 0 := by
  induction bs generalizing k i with
  | nil => rfl
  | cons b bs ih =>
    unfold Memory.ofBytesAt
    cases i with
    | zero =>
      split
      · rename_i hb
        have h := read_below (ofBytesAt_wf (k + 1) bs) (i := k)
          (fun c hc => by have := ofBytesAt_head (k + 1) bs c hc; omega)
        simpa [hb] using h
      · simp [Memory.read]
    | succ i =>
      have h : k + (i + 1) = k + 1 + i := by omega
      split
      · rw [h, ih]; simp
      · have : k ≠ k + 1 + i := by omega
        rw [h]; simp only [Memory.read, this, if_false]; rw [ih]; simp

/-- Byte `i` of the string stands at offset `i`. -/
theorem read_ofBytes (bs : List Byte) (i : Nat) : (Memory.ofBytes bs).read i = bytesFrom bs i := by
  have := read_ofBytesAt 0 bs i
  simpa [Memory.ofBytes, bytesFrom] using this

end MemoryLaws

end Sys2Proof.Machine
end

