-- ==== Sys2Proof/Laws/PerInstr.lean ====
section
/-! SUPPORT. The per-instruction family `RoundTrip`: the decoder on a whole pattern gives back the instruction that
was encoded. -/

set_option Elab.async false

namespace Sys2Proof.Laws.RoundTrip

/-- Decoding the encoded pattern of a well-formed instruction gives it back (R85). -/
def Statement (i : Instr) : Prop := WellFormed i → decodePattern (encode i) = some i

theorem op1_00_03 (lo : BitVec 2) : Statement (Instr.op1_00_03 lo) := by revert lo; unfold Statement; decide +kernel
theorem op1_04 : Statement (Instr.op1_04) := fun _ => by decide +kernel
theorem op1_05 : Statement (Instr.op1_05) := fun _ => by decide +kernel
theorem op1_06_07 (lo : BitVec 1) : Statement (Instr.op1_06_07 lo) := by revert lo; unfold Statement; decide +kernel
theorem op1_08_0B (lo : BitVec 2) : Statement (Instr.op1_08_0B lo) := by revert lo; unfold Statement; decide +kernel
theorem op1_0C : Statement (Instr.op1_0C) := fun _ => by decide +kernel
theorem op1_0D : Statement (Instr.op1_0D) := fun _ => by decide +kernel
theorem op1_0E : Statement (Instr.op1_0E) := fun _ => by decide +kernel
theorem op1_0F : Statement (Instr.op1_0F) := fun _ => by decide +kernel
theorem op1_10_13 (lo : BitVec 2) : Statement (Instr.op1_10_13 lo) := by revert lo; unfold Statement; decide +kernel
theorem op1_14 : Statement (Instr.op1_14) := fun _ => by decide +kernel
theorem op1_15 : Statement (Instr.op1_15) := fun _ => by decide +kernel
theorem op1_16_17 (lo : BitVec 1) : Statement (Instr.op1_16_17 lo) := by revert lo; unfold Statement; decide +kernel
theorem op1_18_1B (lo : BitVec 2) : Statement (Instr.op1_18_1B lo) := by revert lo; unfold Statement; decide +kernel
theorem op1_1C : Statement (Instr.op1_1C) := fun _ => by decide +kernel
theorem op1_1D : Statement (Instr.op1_1D) := fun _ => by decide +kernel
theorem op1_1E_1F (lo : BitVec 1) : Statement (Instr.op1_1E_1F lo) := by revert lo; unfold Statement; decide +kernel
theorem op1_20_23 (lo : BitVec 2) : Statement (Instr.op1_20_23 lo) := by revert lo; unfold Statement; decide +kernel
theorem op1_24 : Statement (Instr.op1_24) := fun _ => by decide +kernel
theorem op1_25 : Statement (Instr.op1_25) := fun _ => by decide +kernel
theorem op1_26 : Statement (Instr.op1_26) := fun _ => by decide +kernel
theorem op1_27 : Statement (Instr.op1_27) := fun _ => by decide +kernel
theorem op1_28_2B (lo : BitVec 2) : Statement (Instr.op1_28_2B lo) := by revert lo; unfold Statement; decide +kernel
theorem op1_2C : Statement (Instr.op1_2C) := fun _ => by decide +kernel
theorem op1_2D : Statement (Instr.op1_2D) := fun _ => by decide +kernel
theorem op1_2E : Statement (Instr.op1_2E) := fun _ => by decide +kernel
theorem op1_2F : Statement (Instr.op1_2F) := fun _ => by decide +kernel
theorem op1_30_33 (lo : BitVec 2) : Statement (Instr.op1_30_33 lo) := by revert lo; unfold Statement; decide +kernel
theorem op1_34 : Statement (Instr.op1_34) := fun _ => by decide +kernel
theorem op1_35 : Statement (Instr.op1_35) := fun _ => by decide +kernel
theorem op1_36 : Statement (Instr.op1_36) := fun _ => by decide +kernel
theorem op1_37 : Statement (Instr.op1_37) := fun _ => by decide +kernel
theorem op1_38_3B (lo : BitVec 2) : Statement (Instr.op1_38_3B lo) := by revert lo; unfold Statement; decide +kernel
theorem op1_3C : Statement (Instr.op1_3C) := fun _ => by decide +kernel
theorem op1_3D : Statement (Instr.op1_3D) := fun _ => by decide +kernel
theorem op1_3E : Statement (Instr.op1_3E) := fun _ => by decide +kernel
theorem op1_3F : Statement (Instr.op1_3F) := fun _ => by decide +kernel
theorem op1_40_47 (lo : BitVec 3) : Statement (Instr.op1_40_47 lo) := by revert lo; unfold Statement; decide +kernel
theorem op1_48_4F (lo : BitVec 3) : Statement (Instr.op1_48_4F lo) := by revert lo; unfold Statement; decide +kernel
theorem op1_50_57 (lo : BitVec 3) : Statement (Instr.op1_50_57 lo) := by revert lo; unfold Statement; decide +kernel
theorem op1_58_5F (lo : BitVec 3) : Statement (Instr.op1_58_5F lo) := by revert lo; unfold Statement; decide +kernel
theorem op1_60_61 (lo : BitVec 1) : Statement (Instr.op1_60_61 lo) := by revert lo; unfold Statement; decide +kernel
theorem op1_62 : Statement (Instr.op1_62) := fun _ => by decide +kernel
theorem op1_63 : Statement (Instr.op1_63) := fun _ => by decide +kernel
theorem op1_64_65 (lo : BitVec 1) : Statement (Instr.op1_64_65 lo) := by revert lo; unfold Statement; decide +kernel
theorem op1_66 : Statement (Instr.op1_66) := fun _ => by decide +kernel
theorem op1_67 : Statement (Instr.op1_67) := fun _ => by decide +kernel
theorem op1_68 : Statement (Instr.op1_68) := fun _ => by decide +kernel
theorem op1_69 : Statement (Instr.op1_69) := fun _ => by decide +kernel
theorem op1_6A : Statement (Instr.op1_6A) := fun _ => by decide +kernel
theorem op1_6B : Statement (Instr.op1_6B) := fun _ => by decide +kernel
theorem op1_6C_6F (lo : BitVec 2) : Statement (Instr.op1_6C_6F lo) := by revert lo; unfold Statement; decide +kernel
theorem op1_70_7F (lo : BitVec 4) : Statement (Instr.op1_70_7F lo) := by revert lo; unfold Statement; decide +kernel
theorem op1_80 : Statement (Instr.op1_80) := fun _ => by decide +kernel
theorem op1_81 : Statement (Instr.op1_81) := fun _ => by decide +kernel
theorem op1_82 : Statement (Instr.op1_82) := fun _ => by decide +kernel
theorem op1_83 : Statement (Instr.op1_83) := fun _ => by decide +kernel
theorem op1_84_87 (lo : BitVec 2) : Statement (Instr.op1_84_87 lo) := by revert lo; unfold Statement; decide +kernel
theorem op1_88 : Statement (Instr.op1_88) := fun _ => by decide +kernel
theorem op1_89 : Statement (Instr.op1_89) := fun _ => by decide +kernel
theorem op1_8A_8B (lo : BitVec 1) : Statement (Instr.op1_8A_8B lo) := by revert lo; unfold Statement; decide +kernel
theorem op1_8C_8D (lo : BitVec 1) : Statement (Instr.op1_8C_8D lo) := by revert lo; unfold Statement; decide +kernel
theorem op1_8E : Statement (Instr.op1_8E) := fun _ => by decide +kernel
theorem op1_8F : Statement (Instr.op1_8F) := fun _ => by decide +kernel
theorem op1_90 : Statement (Instr.op1_90) := fun _ => by decide +kernel
theorem op1_91 : Statement (Instr.op1_91) := fun _ => by decide +kernel
theorem op1_92_93 (lo : BitVec 1) : Statement (Instr.op1_92_93 lo) := by revert lo; unfold Statement; decide +kernel
theorem op1_94_97 (lo : BitVec 2) : Statement (Instr.op1_94_97 lo) := by revert lo; unfold Statement; decide +kernel
theorem op1_98_99 (lo : BitVec 1) : Statement (Instr.op1_98_99 lo) := by revert lo; unfold Statement; decide +kernel
theorem op1_9A : Statement (Instr.op1_9A) := fun _ => by decide +kernel
theorem op1_9B : Statement (Instr.op1_9B) := fun _ => by decide +kernel
theorem op1_9C_9F (lo : BitVec 2) : Statement (Instr.op1_9C_9F lo) := by revert lo; unfold Statement; decide +kernel
theorem op1_A0_A3 (lo : BitVec 2) : Statement (Instr.op1_A0_A3 lo) := by revert lo; unfold Statement; decide +kernel
theorem op1_A4_A7 (lo : BitVec 2) : Statement (Instr.op1_A4_A7 lo) := by revert lo; unfold Statement; decide +kernel
theorem op1_A8 : Statement (Instr.op1_A8) := fun _ => by decide +kernel
theorem op1_A9 : Statement (Instr.op1_A9) := fun _ => by decide +kernel
theorem op1_AA_AB (lo : BitVec 1) : Statement (Instr.op1_AA_AB lo) := by revert lo; unfold Statement; decide +kernel
theorem op1_AC_AF (lo : BitVec 2) : Statement (Instr.op1_AC_AF lo) := by revert lo; unfold Statement; decide +kernel
theorem op1_B0_B7 (lo : BitVec 3) : Statement (Instr.op1_B0_B7 lo) := by revert lo; unfold Statement; decide +kernel
theorem op1_B8_BF (lo : BitVec 3) : Statement (Instr.op1_B8_BF lo) := by revert lo; unfold Statement; decide +kernel
theorem op1_C0_C1 (lo : BitVec 1) : Statement (Instr.op1_C0_C1 lo) := by revert lo; unfold Statement; decide +kernel
theorem op1_C2 : Statement (Instr.op1_C2) := fun _ => by decide +kernel
theorem op1_C3 : Statement (Instr.op1_C3) := fun _ => by decide +kernel
theorem op1_C4_C5 (lo : BitVec 1) : Statement (Instr.op1_C4_C5 lo) := by revert lo; unfold Statement; decide +kernel
theorem op1_C6 : Statement (Instr.op1_C6) := fun _ => by decide +kernel
theorem op1_C7 : Statement (Instr.op1_C7) := fun _ => by decide +kernel
theorem op1_C8 : Statement (Instr.op1_C8) := fun _ => by decide +kernel
theorem op1_C9 : Statement (Instr.op1_C9) := fun _ => by decide +kernel
theorem op1_CA : Statement (Instr.op1_CA) := fun _ => by decide +kernel
theorem op1_CB : Statement (Instr.op1_CB) := fun _ => by decide +kernel
theorem op1_CC : Statement (Instr.op1_CC) := fun _ => by decide +kernel
theorem op1_CD : Statement (Instr.op1_CD) := fun _ => by decide +kernel
theorem op1_CE : Statement (Instr.op1_CE) := fun _ => by decide +kernel
theorem op1_CF : Statement (Instr.op1_CF) := fun _ => by decide +kernel
theorem op1_D0_D3 (lo : BitVec 2) : Statement (Instr.op1_D0_D3 lo) := by revert lo; unfold Statement; decide +kernel
theorem op1_D4_D5 (lo : BitVec 1) : Statement (Instr.op1_D4_D5 lo) := by revert lo; unfold Statement; decide +kernel
theorem op1_D6 : Statement (Instr.op1_D6) := fun _ => by decide +kernel
theorem op1_D7 : Statement (Instr.op1_D7) := fun _ => by decide +kernel
theorem op1_D8_DF (lo : BitVec 3) : Statement (Instr.op1_D8_DF lo) := by revert lo; unfold Statement; decide +kernel
theorem op1_E0_E3 (lo : BitVec 2) : Statement (Instr.op1_E0_E3 lo) := by revert lo; unfold Statement; decide +kernel
theorem op1_E4_E7 (lo : BitVec 2) : Statement (Instr.op1_E4_E7 lo) := by revert lo; unfold Statement; decide +kernel
theorem op1_E8_E9 (lo : BitVec 1) : Statement (Instr.op1_E8_E9 lo) := by revert lo; unfold Statement; decide +kernel
theorem op1_EA : Statement (Instr.op1_EA) := fun _ => by decide +kernel
theorem op1_EB : Statement (Instr.op1_EB) := fun _ => by decide +kernel
theorem op1_EC_EF (lo : BitVec 2) : Statement (Instr.op1_EC_EF lo) := by revert lo; unfold Statement; decide +kernel
theorem op1_F0 : Statement (Instr.op1_F0) := fun _ => by decide +kernel
theorem op1_F1 : Statement (Instr.op1_F1) := fun _ => by decide +kernel
theorem op1_F2_F3 (lo : BitVec 1) : Statement (Instr.op1_F2_F3 lo) := by revert lo; unfold Statement; decide +kernel
theorem op1_F4_F5 (lo : BitVec 1) : Statement (Instr.op1_F4_F5 lo) := by revert lo; unfold Statement; decide +kernel
theorem op1_F6 : Statement (Instr.op1_F6) := fun _ => by decide +kernel
theorem op1_F7 : Statement (Instr.op1_F7) := fun _ => by decide +kernel
theorem op1_F8_FB (lo : BitVec 2) : Statement (Instr.op1_F8_FB lo) := by revert lo; unfold Statement; decide +kernel
theorem op1_FC_FD (lo : BitVec 1) : Statement (Instr.op1_FC_FD lo) := by revert lo; unfold Statement; decide +kernel
theorem op1_FE : Statement (Instr.op1_FE) := fun _ => by decide +kernel
theorem op1_FF : Statement (Instr.op1_FF) := fun _ => by decide +kernel
theorem op1_F6_r0 (mod : BitVec 2) (rm : BitVec 3) : Statement (Instr.op1_F6_r0 mod rm) := by revert mod rm; unfold Statement; decide +kernel
theorem op1_F6_r1 (mod : BitVec 2) (rm : BitVec 3) : Statement (Instr.op1_F6_r1 mod rm) := by revert mod rm; unfold Statement; decide +kernel
theorem op1_F6_r2 (mod : BitVec 2) (rm : BitVec 3) : Statement (Instr.op1_F6_r2 mod rm) := by revert mod rm; unfold Statement; decide +kernel
theorem op1_F6_r3 (mod : BitVec 2) (rm : BitVec 3) : Statement (Instr.op1_F6_r3 mod rm) := by revert mod rm; unfold Statement; decide +kernel
theorem op1_F6_r4 (mod : BitVec 2) (rm : BitVec 3) : Statement (Instr.op1_F6_r4 mod rm) := by revert mod rm; unfold Statement; decide +kernel
theorem op1_F6_r5 (mod : BitVec 2) (rm : BitVec 3) : Statement (Instr.op1_F6_r5 mod rm) := by revert mod rm; unfold Statement; decide +kernel
theorem op1_F6_r6 (mod : BitVec 2) (rm : BitVec 3) : Statement (Instr.op1_F6_r6 mod rm) := by revert mod rm; unfold Statement; decide +kernel
theorem op1_F6_r7 (mod : BitVec 2) (rm : BitVec 3) : Statement (Instr.op1_F6_r7 mod rm) := by revert mod rm; unfold Statement; decide +kernel
theorem op1_F7_r0 (mod : BitVec 2) (rm : BitVec 3) : Statement (Instr.op1_F7_r0 mod rm) := by revert mod rm; unfold Statement; decide +kernel
theorem op1_F7_r1 (mod : BitVec 2) (rm : BitVec 3) : Statement (Instr.op1_F7_r1 mod rm) := by revert mod rm; unfold Statement; decide +kernel
theorem op1_F7_r2 (mod : BitVec 2) (rm : BitVec 3) : Statement (Instr.op1_F7_r2 mod rm) := by revert mod rm; unfold Statement; decide +kernel
theorem op1_F7_r3 (mod : BitVec 2) (rm : BitVec 3) : Statement (Instr.op1_F7_r3 mod rm) := by revert mod rm; unfold Statement; decide +kernel
theorem op1_F7_r4 (mod : BitVec 2) (rm : BitVec 3) : Statement (Instr.op1_F7_r4 mod rm) := by revert mod rm; unfold Statement; decide +kernel
theorem op1_F7_r5 (mod : BitVec 2) (rm : BitVec 3) : Statement (Instr.op1_F7_r5 mod rm) := by revert mod rm; unfold Statement; decide +kernel
theorem op1_F7_r6 (mod : BitVec 2) (rm : BitVec 3) : Statement (Instr.op1_F7_r6 mod rm) := by revert mod rm; unfold Statement; decide +kernel
theorem op1_F7_r7 (mod : BitVec 2) (rm : BitVec 3) : Statement (Instr.op1_F7_r7 mod rm) := by revert mod rm; unfold Statement; decide +kernel
theorem op2_01_inW01 (op2 : Byte) : Statement (Instr.op2_01_inW01 op2) := by revert op2; unfold Statement; decide +kernel
theorem op2_01_other (op2 : Byte) : Statement (Instr.op2_01_other op2) := by revert op2; unfold Statement; decide +kernel
theorem op2_38_other (op2 : Byte) : Statement (Instr.op2_38_other op2) := by revert op2; unfold Statement; decide +kernel
theorem op2_3A_inW3A_NI (op2 : Byte) : Statement (Instr.op2_3A_inW3A_NI op2) := by revert op2; unfold Statement; decide +kernel
theorem op2_3A_other (op2 : Byte) : Statement (Instr.op2_3A_other op2) := by revert op2; unfold Statement; decide +kernel
theorem op2_00 : Statement (Instr.op2_00) := fun _ => by decide +kernel
theorem op2_01 : Statement (Instr.op2_01) := fun _ => by decide +kernel
theorem op2_02_03 (lo : BitVec 1) : Statement (Instr.op2_02_03 lo) := by revert lo; unfold Statement; decide +kernel
theorem op2_04 : Statement (Instr.op2_04) := fun _ => by decide +kernel
theorem op2_05 : Statement (Instr.op2_05) := fun _ => by decide +kernel
theorem op2_06_07 (lo : BitVec 1) : Statement (Instr.op2_06_07 lo) := by revert lo; unfold Statement; decide +kernel
theorem op2_08_09 (lo : BitVec 1) : Statement (Instr.op2_08_09 lo) := by revert lo; unfold Statement; decide +kernel
theorem op2_0A : Statement (Instr.op2_0A) := fun _ => by decide +kernel
theorem op2_0B : Statement (Instr.op2_0B) := fun _ => by decide +kernel
theorem op2_0C : Statement (Instr.op2_0C) := fun _ => by decide +kernel
theorem op2_0D : Statement (Instr.op2_0D) := fun _ => by decide +kernel
theorem op2_0E_0F (lo : BitVec 1) : Statement (Instr.op2_0E_0F lo) := by revert lo; unfold Statement; decide +kernel
theorem op2_10_17 (lo : BitVec 3) : Statement (Instr.op2_10_17 lo) := by revert lo; unfold Statement; decide +kernel
theorem op2_18_1B (lo : BitVec 2) : Statement (Instr.op2_18_1B lo) := by revert lo; unfold Statement; decide +kernel
theorem op2_1C_1D (lo : BitVec 1) : Statement (Instr.op2_1C_1D lo) := by revert lo; unfold Statement; decide +kernel
theorem op2_1E : Statement (Instr.op2_1E) := fun _ => by decide +kernel
theorem op2_1F : Statement (Instr.op2_1F) := fun _ => by decide +kernel
theorem op2_20_23 (lo : BitVec 2) : Statement (Instr.op2_20_23 lo) := by revert lo; unfold Statement; decide +kernel
theorem op2_24_27 (lo : BitVec 2) : Statement (Instr.op2_24_27 lo) := by revert lo; unfold Statement; decide +kernel
theorem op2_28_2F (lo : BitVec 3) : Statement (Instr.op2_28_2F lo) := by revert lo; unfold Statement; decide +kernel
theorem op2_30_33 (lo : BitVec 2) : Statement (Instr.op2_30_33 lo) := by revert lo; unfold Statement; decide +kernel
theorem op2_34_35 (lo : BitVec 1) : Statement (Instr.op2_34_35 lo) := by revert lo; unfold Statement; decide +kernel
theorem op2_36 : Statement (Instr.op2_36) := fun _ => by decide +kernel
theorem op2_37 : Statement (Instr.op2_37) := fun _ => by decide +kernel
theorem op2_38 : Statement (Instr.op2_38) := fun _ => by decide +kernel
theorem op2_39 : Statement (Instr.op2_39) := fun _ => by decide +kernel
theorem op2_3A : Statement (Instr.op2_3A) := fun _ => by decide +kernel
theorem op2_3B : Statement (Instr.op2_3B) := fun _ => by decide +kernel
theorem op2_3C_3F (lo : BitVec 2) : Statement (Instr.op2_3C_3F lo) := by revert lo; unfold Statement; decide +kernel
theorem op2_40_4F (lo : BitVec 4) : Statement (Instr.op2_40_4F lo) := by revert lo; unfold Statement; decide +kernel
theorem op2_50_5F (lo : BitVec 4) : Statement (Instr.op2_50_5F lo) := by revert lo; unfold Statement; decide +kernel
theorem op2_60_6F (lo : BitVec 4) : Statement (Instr.op2_60_6F lo) := by revert lo; unfold Statement; decide +kernel
theorem op2_70 : Statement (Instr.op2_70) := fun _ => by decide +kernel
theorem op2_71 : Statement (Instr.op2_71) := fun _ => by decide +kernel
theorem op2_72_73 (lo : BitVec 1) : Statement (Instr.op2_72_73 lo) := by revert lo; unfold Statement; decide +kernel
theorem op2_74_75 (lo : BitVec 1) : Statement (Instr.op2_74_75 lo) := by revert lo; unfold Statement; decide +kernel
theorem op2_76 : Statement (Instr.op2_76) := fun _ => by decide +kernel
theorem op2_77 : Statement (Instr.op2_77) := fun _ => by decide +kernel
theorem op2_78_79 (lo : BitVec 1) : Statement (Instr.op2_78_79 lo) := by revert lo; unfold Statement; decide +kernel
theorem op2_7A_7B (lo : BitVec 1) : Statement (Instr.op2_7A_7B lo) := by revert lo; unfold Statement; decide +kernel
theorem op2_7C_7F (lo : BitVec 2) : Statement (Instr.op2_7C_7F lo) := by revert lo; unfold Statement; decide +kernel
theorem op2_80_8F (lo : BitVec 4) : Statement (Instr.op2_80_8F lo) := by revert lo; unfold Statement; decide +kernel
theorem op2_90_9F (lo : BitVec 4) : Statement (Instr.op2_90_9F lo) := by revert lo; unfold Statement; decide +kernel
theorem op2_A0_A1 (lo : BitVec 1) : Statement (Instr.op2_A0_A1 lo) := by revert lo; unfold Statement; decide +kernel
theorem op2_A2 : Statement (Instr.op2_A2) := fun _ => by decide +kernel
theorem op2_A3 : Statement (Instr.op2_A3) := fun _ => by decide +kernel
theorem op2_A4 : Statement (Instr.op2_A4) := fun _ => by decide +kernel
theorem op2_A5 : Statement (Instr.op2_A5) := fun _ => by decide +kernel
theorem op2_A6_A7 (lo : BitVec 1) : Statement (Instr.op2_A6_A7 lo) := by revert lo; unfold Statement; decide +kernel
theorem op2_A8_A9 (lo : BitVec 1) : Statement (Instr.op2_A8_A9 lo) := by revert lo; unfold Statement; decide +kernel
theorem op2_AA : Statement (Instr.op2_AA) := fun _ => by decide +kernel
theorem op2_AB : Statement (Instr.op2_AB) := fun _ => by decide +kernel
theorem op2_AC : Statement (Instr.op2_AC) := fun _ => by decide +kernel
theorem op2_AD : Statement (Instr.op2_AD) := fun _ => by decide +kernel
theorem op2_AE : Statement (Instr.op2_AE) := fun _ => by decide +kernel
theorem op2_AF : Statement (Instr.op2_AF) := fun _ => by decide +kernel
theorem op2_B0_B7 (lo : BitVec 3) : Statement (Instr.op2_B0_B7 lo) := by revert lo; unfold Statement; decide +kernel
theorem op2_B8 : Statement (Instr.op2_B8) := fun _ => by decide +kernel
theorem op2_B9 : Statement (Instr.op2_B9) := fun _ => by decide +kernel
theorem op2_BA : Statement (Instr.op2_BA) := fun _ => by decide +kernel
theorem op2_BB : Statement (Instr.op2_BB) := fun _ => by decide +kernel
theorem op2_BC_BF (lo : BitVec 2) : Statement (Instr.op2_BC_BF lo) := by revert lo; unfold Statement; decide +kernel
theorem op2_C0_C1 (lo : BitVec 1) : Statement (Instr.op2_C0_C1 lo) := by revert lo; unfold Statement; decide +kernel
theorem op2_C2 : Statement (Instr.op2_C2) := fun _ => by decide +kernel
theorem op2_C3 : Statement (Instr.op2_C3) := fun _ => by decide +kernel
theorem op2_C4_C5 (lo : BitVec 1) : Statement (Instr.op2_C4_C5 lo) := by revert lo; unfold Statement; decide +kernel
theorem op2_C6 : Statement (Instr.op2_C6) := fun _ => by decide +kernel
theorem op2_C7 : Statement (Instr.op2_C7) := fun _ => by decide +kernel
theorem op2_C8_CF (lo : BitVec 3) : Statement (Instr.op2_C8_CF lo) := by revert lo; unfold Statement; decide +kernel
theorem op2_D0_DF (lo : BitVec 4) : Statement (Instr.op2_D0_DF lo) := by revert lo; unfold Statement; decide +kernel
theorem op2_E0_EF (lo : BitVec 4) : Statement (Instr.op2_E0_EF lo) := by revert lo; unfold Statement; decide +kernel
theorem op2_F0_F7 (lo : BitVec 3) : Statement (Instr.op2_F0_F7 lo) := by revert lo; unfold Statement; decide +kernel
theorem op2_F8_FB (lo : BitVec 2) : Statement (Instr.op2_F8_FB lo) := by revert lo; unfold Statement; decide +kernel
theorem op2_FC_FD (lo : BitVec 1) : Statement (Instr.op2_FC_FD lo) := by revert lo; unfold Statement; decide +kernel
theorem op2_FE : Statement (Instr.op2_FE) := fun _ => by decide +kernel
theorem op2_FF : Statement (Instr.op2_FF) := fun _ => by decide +kernel
theorem op2_38_00 : Statement (Instr.op2_38_00) := fun _ => by decide +kernel
theorem op2_38_01 : Statement (Instr.op2_38_01) := fun _ => by decide +kernel
theorem op2_38_02 : Statement (Instr.op2_38_02) := fun _ => by decide +kernel
theorem op2_38_03 : Statement (Instr.op2_38_03) := fun _ => by decide +kernel
theorem op2_38_04 : Statement (Instr.op2_38_04) := fun _ => by decide +kernel
theorem op2_38_05 : Statement (Instr.op2_38_05) := fun _ => by decide +kernel
theorem op2_38_06 : Statement (Instr.op2_38_06) := fun _ => by decide +kernel
theorem op2_38_07 : Statement (Instr.op2_38_07) := fun _ => by decide +kernel
theorem op2_38_08 : Statement (Instr.op2_38_08) := fun _ => by decide +kernel
theorem op2_38_09 : Statement (Instr.op2_38_09) := fun _ => by decide +kernel
theorem op2_38_0A : Statement (Instr.op2_38_0A) := fun _ => by decide +kernel
theorem op2_38_0B : Statement (Instr.op2_38_0B) := fun _ => by decide +kernel
theorem op2_3A_08 : Statement (Instr.op2_3A_08) := fun _ => by decide +kernel
theorem op2_3A_09 : Statement (Instr.op2_3A_09) := fun _ => by decide +kernel
theorem op2_3A_0A : Statement (Instr.op2_3A_0A) := fun _ => by decide +kernel
theorem op2_3A_0B : Statement (Instr.op2_3A_0B) := fun _ => by decide +kernel
theorem op2_3A_0C : Statement (Instr.op2_3A_0C) := fun _ => by decide +kernel
theorem op2_3A_0D : Statement (Instr.op2_3A_0D) := fun _ => by decide +kernel
theorem op2_3A_0E : Statement (Instr.op2_3A_0E) := fun _ => by decide +kernel
theorem op2_3A_0F : Statement (Instr.op2_3A_0F) := fun _ => by decide +kernel
theorem op2_3A_14 : Statement (Instr.op2_3A_14) := fun _ => by decide +kernel
theorem op2_3A_15 : Statement (Instr.op2_3A_15) := fun _ => by decide +kernel
theorem op2_3A_16 : Statement (Instr.op2_3A_16) := fun _ => by decide +kernel
theorem op2_3A_17 : Statement (Instr.op2_3A_17) := fun _ => by decide +kernel
theorem op2_3A_20 : Statement (Instr.op2_3A_20) := fun _ => by decide +kernel
theorem op2_3A_21 : Statement (Instr.op2_3A_21) := fun _ => by decide +kernel
theorem op2_3A_22 : Statement (Instr.op2_3A_22) := fun _ => by decide +kernel
theorem op2_3A_40 : Statement (Instr.op2_3A_40) := fun _ => by decide +kernel
theorem op2_3A_41 : Statement (Instr.op2_3A_41) := fun _ => by decide +kernel
theorem op2_3A_42 : Statement (Instr.op2_3A_42) := fun _ => by decide +kernel
theorem op2_3A_44 : Statement (Instr.op2_3A_44) := fun _ => by decide +kernel
theorem op2_3A_60 : Statement (Instr.op2_3A_60) := fun _ => by decide +kernel
theorem op2_3A_61 : Statement (Instr.op2_3A_61) := fun _ => by decide +kernel
theorem op2_3A_62 : Statement (Instr.op2_3A_62) := fun _ => by decide +kernel
theorem op2_3A_63 : Statement (Instr.op2_3A_63) := fun _ => by decide +kernel
theorem op2_3A_DF : Statement (Instr.op2_3A_DF) := fun _ => by decide +kernel

end Sys2Proof.Laws.RoundTrip
end

