-- ==== Sys2Proof/Laws/Reference.lean ====
section
/-! SUPPORT. The parts of the pure `DECODE` (R221), each said once: the prefix loop, the context that consumed bytes
leave, and the bounds on a computed length. -/

namespace Sys2Proof.Machine

/-- One more byte is one more in the count, which cannot wrap below 15 (R27, R54). -/
theorem consume_pfx_toNat {x : Ctx} {b : Byte} (h : x.pfx.toNat < 15) :
    (x.consume b).pfx.toNat = x.pfx.toNat + 1 := by
  rw [Ctx.consume_pfx, BitVec.toNat_add]; simp; omega

/-- The three conditions of the prefix loop (R190). -/
theorem prefixByte_iff {c : Config} {buf : Nat → Byte} {n : Nat} {x : Ctx} :
    prefixByte c buf n x = true ↔
      x.pfx.toNat < n ∧ x.esc = false ∧ (c.t1 (buf x.pfx.toNat)).cat = .PFX := by
  simp [prefixByte, and_assoc]

/-- What the prefix loop does from `x` to `y` (R190, R191, R194, R223). -/
structure PrefixRun (c : Config) (buf : Nat → Byte) (n : Nat) (x y : Ctx) : Prop where
  lower : x.pfx.toNat ≤ y.pfx.toNat
  upper : y.pfx.toNat ≤ n
  tagged : ∀ i, x.pfx.toNat ≤ i → i < y.pfx.toNat → (c.t1 (buf i)).cat = .PFX
  noEscape : ∀ i, x.pfx.toNat ≤ i → i + 1 < y.pfx.toNat → buf i ≠ 0x0F#8
  stopped : prefixByte c buf n y = false
  context : x = contextAfter buf x.pfx.toNat → y = contextAfter buf y.pfx.toNat
  escaped : x.esc = true → y = x

theorem scanPrefixes_run (c : Config) (buf : Nat → Byte) {n : Nat} (hn : n ≤ 15) :
    ∀ fuel x, x.pfx.toNat ≤ n → n - x.pfx.toNat ≤ fuel → PrefixRun c buf n x (scanPrefixes c buf n fuel x) := by
  intro fuel
  induction fuel with
  | zero =>
    intro x h1 h2
    have hlt : ¬x.pfx.toNat < n := by omega
    exact
      { lower := Nat.le_refl _
        upper := h1
        tagged := fun i a b => by simp only [scanPrefixes] at b; omega
        noEscape := fun i a b => by simp only [scanPrefixes] at b; omega
        stopped := by
          simp only [scanPrefixes]; rw [Bool.eq_false_iff]; intro h; exact hlt (prefixByte_iff.mp h).1
        context := id
        escaped := fun _ => rfl }
  | succ fuel ih =>
    intro x h1 h2
    rw [scanPrefixes]; split
    · rename_i hb
      obtain ⟨a, b, d⟩ := prefixByte_iff.mp hb
      have e := consume_pfx_toNat (x := x) (b := buf x.pfx.toNat) (by omega)
      have r := ih (x.consume (buf x.pfx.toNat)) (by omega) (by omega)
      have hlo := r.lower
      rw [e] at hlo
      refine ⟨by omega, r.upper, fun i k1 k2 => ?_, fun i k1 k2 => ?_, r.stopped, fun hx => r.context ?_,
        fun h => by rw [b] at h; nomatch h⟩
      · by_cases q : i = x.pfx.toNat
        · rw [q]; exact d
        · exact r.tagged i (by omega) k2
      · by_cases q : i = x.pfx.toNat
        · intro hh
          have hr := r.escaped (by rw [Ctx.consume_esc, ← q, hh]; simp)
          rw [hr, e] at k2; omega
        · exact r.noEscape i (by omega) k2
      · rw [e, contextAfter, ← hx]
    · rename_i hb
      exact ⟨Nat.le_refl _, h1, fun i a b => by omega, fun i a b => by omega, by simpa using hb, id, fun _ => rfl⟩

/-- The whole prefix phase. -/
theorem prefixPhaseEnd_run (c : Config) (buf : Nat → Byte) {n : Nat} (hn : n ≤ 15) :
    PrefixRun c buf n Ctx.zero (prefixPhaseEnd c buf n) :=
  scanPrefixes_run c buf hn _ _ (Nat.zero_le _) (by simp [maxLen]; omega)

/-- The final bound check (R219). -/
theorem bounded_length {n L k : Nat} (h : bounded n L = .length k) : k = L ∧ L ≤ n := by
  unfold bounded at h; split at h
  · nomatch h
  · cases h; exact ⟨rfl, by omega⟩

/-- A length of a ModRM category (R204, R219). -/
theorem boundedModRM_length {buf : Nat → Byte} {n : Nat} {x : Ctx} {e i L : Nat}
    (h : boundedModRM buf n x e i = .length L) :
    addrSize x buf (x.pfx.toNat + (1 + e)) (n - (x.pfx.toNat + (1 + e))) ≠ 0 ∧
    L = x.pfx.toNat + (1 + e) + addrSize x buf (x.pfx.toNat + (1 + e)) (n - (x.pfx.toNat + (1 + e))) + i ∧
    L ≤ n := by
  unfold boundedModRM at h; dsimp only at h
  split at h
  · contradiction
  · obtain ⟨h1, h2⟩ := bounded_length h; exact ⟨by assumption, h1, by omega⟩

/-- A computed length holds the opcode byte and lies in the window. -/
theorem lengthVerdict_bounds {c : Config} {buf : Nat → Byte} {n : Nat} {x : Ctx} {cat : Category} {imm64 : Bool}
    {e L : Nat} (h : lengthVerdict c buf n x cat imm64 e = .length L) : x.pfx.toNat + 1 ≤ L ∧ L ≤ n := by
  cases cat <;> dsimp only [lengthVerdict] at h
  all_goals first
    | contradiction
    | (obtain ⟨h1, h2⟩ := bounded_length h; omega)
    | (obtain ⟨h1, h2, h3⟩ := boundedModRM_length h; omega)

/-- The verdict and the result say the same of a length. -/
theorem decodeResult_valid_iff {c : Config} {buf : Nat → Byte} {len L : Nat} :
    decodeResult c buf len = .valid L ↔ decodeVerdict c buf len = .length L := by
  unfold decodeResult; cases decodeVerdict c buf len <;> simp [Verdict.result]

end Sys2Proof.Machine
end

