-- ==== Sys2Proof/Tests/Slice0.lean ====
section
/-! SUPPORT. The model's own tests: ill-formed terms that `WellFormed` refuses, words written out bit by bit from the
encodings of the spec, single steps and results from the vectors of `95_test_vectors.md`, and one witness for the
hypotheses of every statement that has some. -/

set_option Elab.async false

namespace Sys2Proof.Tests

open Sys2Proof Sys2Proof.Machine

/-! ### `WellFormed` refuses an ill-formed term of each check -/

theorem test_refuses_W01_member_of_empty_list : ¬WellFormed (.op2_01_inW01 0xF8#8) := by decide
theorem test_refuses_W38_member_as_other : ¬WellFormed (.op2_38_other 0x0B#8) := by decide
theorem test_refuses_W3A_NI_member_of_empty_list : ¬WellFormed (.op2_3A_inW3A_NI 0x14#8) := by decide
theorem test_refuses_W3A_I8_member_as_other : ¬WellFormed (.op2_3A_other 0xDF#8) := by decide
theorem test_accepts_unlisted_bytes :
    WellFormed (.op2_01_other 0xF8#8) ∧ WellFormed (.op2_38_other 0x0C#8) ∧ WellFormed (.op2_3A_other 0x00#8) ∧
    WellFormed .op2_38_0B ∧ WellFormed .op2_3A_DF := by decide

/-! ### Words written out bit by bit (R71, R85, R124, R125) -/

/-- `0F`, `66`, `67`, `48` to `4F`, `F0` (R102 to R108). -/
theorem test_decode_prefixes :
    decode false false [0b00001111#8] = .instr .op1_0F ∧ decode false false [0b01100110#8] = .instr .op1_66 ∧
    decode false false [0b01100111#8] = .instr .op1_67 ∧
    decode false false [0b01001101#8] = .instr (.op1_48_4F 0b101#3) ∧
    decode false false [0b01000010#8] = .instr (.op1_40_47 0b010#3) ∧
    decode false false [0b11110000#8] = .instr .op1_F0 := by decide +kernel

/-- After the escape the same bytes are opcodes (R123). -/
theorem test_decode_after_escape :
    decode true false [0b01100110#8] = .instr (.op2_60_6F 0b0110#4) ∧
    decode true false [0b01001000#8] = .instr (.op2_40_4F 0b1000#4) ∧
    decode true false [0b00001111#8] = .instr (.op2_0E_0F 0b1#1) := by decide +kernel

/-- `90`, `57`, `06`: the no-operand, register-in-opcode and invalid rows. -/
theorem test_decode_plain :
    decode false false [0b10010000#8] = .instr .op1_90 ∧
    decode false false [0b01010111#8] = .instr (.op1_50_57 0b111#3) ∧
    decode false false [0b00000110#8] = .instr (.op1_06_07 0b0#1) := by decide +kernel

/-- `FF`, `8B`, `83`, `81`, `0F BA`: the ModRM rows. -/
theorem test_decode_modrm :
    decode false false [0b11111111#8] = .instr .op1_FF ∧
    decode false false [0b10001011#8] = .instr (.op1_8A_8B 0b1#1) ∧
    decode false false [0b10000011#8] = .instr .op1_83 ∧ decode false false [0b10000001#8] = .instr .op1_81 ∧
    decode true false [0b10111010#8] = .instr .op2_BA := by decide +kernel

/-- `75`, `B8`, `E8`, `C2`, `C8`, `0F 84`: the rows with an immediate and no ModRM byte. -/
theorem test_decode_immediates :
    decode false false [0b01110101#8] = .instr (.op1_70_7F 0b0101#4) ∧
    decode false false [0b10111000#8] = .instr (.op1_B8_BF 0b000#3) ∧
    decode false false [0b11101000#8] = .instr (.op1_E8_E9 0b0#1) ∧
    decode false false [0b11000010#8] = .instr .op1_C2 ∧ decode false false [0b11001000#8] = .instr .op1_C8 ∧
    decode true false [0b10000100#8] = .instr (.op2_80_8F 0b0100#4) := by decide +kernel

/-- `F6` and `F7` with the ModRM byte's `reg` in bits 5 to 3, `0F 38 0B`, `0F 3A 63`, `0F 01 F8` (R172 to R176). -/
theorem test_decode_resolved :
    decode false true [0b11110110#8, 0b11001011#8] = .instr (.op1_F6_r1 0b11#2 0b011#3) ∧
    decode false true [0b11110111#8, 0b01010100#8] = .instr (.op1_F7_r2 0b01#2 0b100#3) ∧
    decode true true [0b00111000#8, 0b00001011#8] = .instr .op2_38_0B ∧
    decode true true [0b00111010#8, 0b01100011#8] = .instr .op2_3A_63 ∧
    decode true true [0b00000001#8, 0b11111000#8] = .instr (.op2_01_other 0xF8#8) := by decide +kernel

/-- Nothing at the cursor, no second byte, no arm (R171, R177, R192). -/
theorem test_decode_rejects :
    decode false false [] = .reject .noByte ∧ decode false true [0xF6#8] = .reject .noSecondByte ∧
    decode true true [0x00#8, 0xC0#8] = .reject .noArm ∧ decode false true [0x90#8, 0x00#8] = .reject .noArm := by
  decide +kernel

/-- The words of the opcode table, first byte most significant (R85). -/
theorem test_table_words :
    decodeTableWord 8 0xC3 = some .op1_C3 ∧ decodeTableWord 16 0x0F1F = some .op2_1F ∧
    decodeTableWord 16 0xF718 = some (.op1_F7_r3 0#2 0#3) ∧ decodeTableWord 24 0x0F3A0F = some .op2_3A_0F ∧
    decodeTableWord 16 0x1F0F = none := by decide +kernel

/-! ### Single steps -/

/-- A state in phase `p` with context `x`, the cursor behind the prefixes, on the buffer `bs`. -/
def stateAt (p : Phase) (x : Ctx) (bs : List Byte) (len : Nat) : State where
  phase := p
  ctx := x
  pos := x.pfx
  outValid := false
  outLen := 0
  inLen := len
  mem := Memory.ofBytes bs
  freeDraw := 0

/-- Whether one step of `s` answers a next state that passes `p`. -/
def stepMeets (s : State) (p : State → Bool) : Bool :=
  match step s with
  | .next t => p t
  | .fault _ => false
  | .refused _ => false

/-- A next state that shows the length `L`. -/
def shows (L : Nat) (t : State) : Bool :=
  decide (t.phase = .idle) && t.outValid && decide (t.outLen.toNat = L)

/-- A next state that shows `Invalid`. -/
def showsInvalid (t : State) : Bool :=
  decide (t.phase = .idle) && !t.outValid && decide (t.outLen = 0)

/-- `66` at the cursor: counted, `op16` set, still in `PREFIX` (R191, R195). -/
theorem test_step_prefix :
    stepMeets (stateAt .prefixPhase Ctx.zero [0x66#8, 0x90#8] 2) (fun t =>
      decide (t.phase = .prefixPhase ∧ t.ctx = ⟨1, false, true, false, false⟩ ∧ t.pos = 1)) = true := by
  decide +kernel

/-- `0F` at the cursor: counted, `esc` set, on to `OPCODE` (R194). -/
theorem test_step_escape :
    stepMeets (stateAt .prefixPhase ⟨1, false, true, false, false⟩ [0x66#8, 0x0F#8, 0x05#8] 3) (fun t =>
      decide (t.phase = .opcodePhase ∧ t.ctx = ⟨2, true, true, false, false⟩ ∧ t.pos = 2)) = true := by
  decide +kernel

/-- `90` and `06`: a length, and DecodeFailure (R206, R205). -/
theorem test_step_plain :
    stepMeets (stateAt .prefixPhase Ctx.zero [0x90#8] 1) (shows 1) = true ∧
    stepMeets (stateAt .prefixPhase Ctx.zero [0x06#8] 1) showsInvalid = true ∧
    stepMeets (stateAt .prefixPhase ⟨1, false, false, false, false⟩ [0x41#8, 0x57#8] 2) (shows 2) = true := by
  decide +kernel

/-- `FF 24 25` and `FF 24 C5`: R147 and R148; `FF` alone: R204. -/
theorem test_step_modrm :
    stepMeets (stateAt .prefixPhase Ctx.zero [0xFF#8, 0x24#8, 0x25#8, 0#8, 0#8, 0#8, 0#8] 7) (shows 7) = true ∧
    stepMeets (stateAt .prefixPhase Ctx.zero [0xFF#8, 0x24#8, 0xC5#8, 0#8, 0#8, 0#8, 0#8] 7) (shows 3) = true ∧
    stepMeets (stateAt .prefixPhase Ctx.zero [0xFF#8] 1) showsInvalid = true := by decide +kernel

/-- `66 83 7D FC 00` and `48 81 C4 ..` behind their prefix: R210 and R212. -/
theorem test_step_modrm_immediate :
    stepMeets (stateAt .prefixPhase ⟨1, false, true, false, false⟩ [0x66#8, 0x83#8, 0x7D#8, 0xFC#8, 0#8] 5)
      (shows 5) = true ∧
    stepMeets (stateAt .prefixPhase ⟨1, false, false, false, true⟩
      [0x48#8, 0x81#8, 0xC4#8, 0#8, 1#8, 0#8, 0#8] 7) (shows 7) = true ∧
    stepMeets (stateAt .prefixPhase ⟨1, false, true, false, false⟩ [0x66#8, 0x81#8, 0xC4#8, 0#8, 1#8] 5)
      (shows 5) = true := by decide +kernel

/-- `48 B8` with 8 bytes, `66 B8` with 2, `48 0F 84` with 4, `C8` with 3: R214 to R217. -/
theorem test_step_immediate :
    stepMeets (stateAt .prefixPhase ⟨1, false, false, false, true⟩
      [0x48#8, 0xB8#8, 1#8, 2#8, 3#8, 4#8, 5#8, 6#8, 7#8, 8#8] 10) (shows 10) = true ∧
    stepMeets (stateAt .prefixPhase ⟨1, false, true, false, false⟩ [0x66#8, 0xB8#8, 0x34#8, 0x12#8] 4)
      (shows 4) = true ∧
    stepMeets (stateAt .opcodePhase ⟨2, true, false, false, true⟩
      [0x48#8, 0x0F#8, 0x84#8, 0#8, 0#8, 0#8, 0#8] 7) (shows 7) = true ∧
    stepMeets (stateAt .prefixPhase Ctx.zero [0xC8#8, 0x10#8, 0#8, 0#8] 4) (shows 4) = true := by decide +kernel

/-- `F6` hands over to the resolver when the second byte is there, and fails when it is not (R171, R199). -/
theorem test_step_special :
    stepMeets (stateAt .prefixPhase Ctx.zero [0xF6#8, 0x05#8] 2) (fun t =>
      decide (t.phase = .lengthPhase ∧ t.ctx = Ctx.zero ∧ t.pos = 0)) = true ∧
    stepMeets (stateAt .prefixPhase Ctx.zero [0xF6#8] 1) showsInvalid = true := by decide +kernel

/-- `F6 05 ..` (scenario 6), `F7 D0`, `66 0F 3A 0F C1 08`, `0F 38 0C`: R173 to R176. -/
theorem test_step_resolver :
    stepMeets (stateAt .lengthPhase Ctx.zero [0xF6#8, 5#8, 0#8, 0#8, 0#8, 0#8, 1#8] 7) (shows 7) = true ∧
    stepMeets (stateAt .lengthPhase Ctx.zero [0xF7#8, 0xD0#8] 2) (shows 2) = true ∧
    stepMeets (stateAt .lengthPhase ⟨2, true, true, false, false⟩
      [0x66#8, 0x0F#8, 0x3A#8, 0x0F#8, 0xC1#8, 8#8] 6) (shows 6) = true ∧
    stepMeets (stateAt .lengthPhase ⟨1, true, false, false, false⟩ [0x0F#8, 0x38#8, 0x0C#8, 0xC1#8] 4)
      showsInvalid = true := by decide +kernel

/-- `67 8B 06 34 12` behind its prefix, and truncated: R158, R161. -/
theorem test_step_addr16 :
    stepMeets (stateAt .prefixPhase ⟨1, false, false, true, false⟩ [0x67#8, 0x8B#8, 6#8, 0x34#8, 0x12#8] 5)
      (shows 5) = true ∧
    stepMeets (stateAt .prefixPhase ⟨1, false, false, true, false⟩ [0x67#8, 0x8B#8, 6#8, 0x34#8] 4)
      showsInvalid = true := by decide +kernel

/-- A placed table word is what the next step runs. -/
theorem test_placed_words :
    stepMeets (State.reset.withFetchWord 16 0x0F84) (shows 6) = true ∧
    stepMeets (State.reset.withFetchWord 16 0xF600) (shows 3) = true ∧
    stepMeets (State.reset.withFetchWord 24 0x0F3A0F) (shows 5) = true := by decide +kernel

theorem test_reset_memory_is_canonical : State.reset.mem.wf = true := by decide

/-! ### Results from `95_test_vectors.md` -/

/-- Part 7: fourteen prefixes and an opcode fit, fifteen leave no opcode; the window stops at 15 bytes. -/
theorem test_window_cap :
    decodeResult machineConfig (bytesFrom (List.replicate 14 0x66#8 ++ [0x90#8])) 15 = .valid 15 ∧
    decodeResult machineConfig (bytesFrom (List.replicate 15 0x66#8 ++ [0x90#8])) 16 = .invalid ∧
    decodeResult machineConfig (bytesFrom (List.replicate 13 0x2E#8 ++ [0x8B#8, 0x04#8])) 16 = .invalid := by
  decide +kernel

/-- Part 8: `F6 05 00 00 00 00 01` at `len` 0 to 7. -/
theorem test_truncation_sweep :
    (List.range 8).map (decodeResult machineConfig
      (bytesFrom [0xF6#8, 5#8, 0#8, 0#8, 0#8, 0#8, 1#8])) = List.replicate 7 .invalid ++ [.valid 7] := by
  decide +kernel

/-- Part 9: `REXW_WINS` (R203). -/
theorem test_rexw_wins :
    decodeResult { machineConfig with immwBoth := .rexwWins }
      (bytesFrom [0x66#8, 0x48#8, 0xB8#8, 1#8, 2#8, 3#8, 4#8, 5#8, 6#8, 7#8, 8#8]) 11 = .valid 11 ∧
    decodeResult machineConfig
      (bytesFrom [0x66#8, 0x48#8, 0xB8#8, 1#8, 2#8, 3#8, 4#8, 5#8, 6#8, 7#8, 8#8]) 11 = .valid 5 := by
  decide +kernel

/-- Part 9: `SC_F7 = NONE` (R176, R177); part 4: `W01 = {F8}` (R172). -/
theorem test_other_parameters :
    decodeVerdict { machineConfig with scF7 := .none } (bytesFrom [0xF7#8, 0xD0#8]) 2 = .failure .specialUnlisted ∧
    decodeVerdict { machineConfig with scF7 := .none } (bytesFrom [0xF7#8]) 1 = .failure .specialShort ∧
    decodeVerdict { machineConfig with w01 := [0xF8#8] } (bytesFrom [0x0F#8, 0x01#8, 0xF8#8, 0xC0#8]) 4 = .length 4 ∧
    decodeVerdict { machineConfig with w01 := [0xF8#8] } (bytesFrom [0x0F#8, 0x01#8, 0xF8#8]) 3
      = .failure .addrShort := by decide +kernel

/-- Program 5 with its two policies. -/
theorem test_sweep_program_5 :
    sweep machineConfig [0x90#8, 0x06#8, 0x90#8, 0xE8#8, 0#8, 0#8] = ⟨[some 1], 1, .stoppedInvalid⟩ ∧
    sweepSkip machineConfig [0x90#8, 0x06#8, 0x90#8, 0xE8#8, 0#8, 0#8]
      = ⟨[some 1, none, some 1, none, some 2], 6, .done⟩ := by decide +kernel

/-! ### Witnesses: what meets the hypotheses of the statements -/

/-- The context after `66`. -/
abbrev ctx66 : Ctx := ⟨1, false, true, false, false⟩
/-- The context after `0F`. -/
abbrev ctx0F : Ctx := ⟨1, true, false, false, false⟩
/-- A state in `PREFIX` behind `66`, `90` the last byte of its window. -/
abbrev inPrefix : State := stateAt .prefixPhase ctx66 [0x66#8, 0x90#8] 2
/-- A state in `OPCODE` behind `0F`, `05` the last byte of its window. -/
abbrev inOpcode : State := stateAt .opcodePhase ctx0F [0x0F#8, 0x05#8] 2
/-- A state in `LENGTH` behind `0F`, the pair `38 00` the last two bytes of its window. -/
abbrev inLength : State := stateAt .lengthPhase ctx0F [0x0F#8, 0x38#8, 0x00#8] 3

theorem witness_IdleBlockWaits : State.reset.phase = .idle := by decide

theorem witness_StepRunsTheDecodedInstruction :
    (inPrefix.phase = .prefixPhase ∧ inPrefix.pos.toNat + 1 = inPrefix.window ∧
      decode inPrefix.ctx.esc false [inPrefix.byte inPrefix.pos.toNat] = .instr .op1_90) ∧
    (inOpcode.phase = .opcodePhase ∧ inOpcode.pos.toNat + 1 = inOpcode.window ∧
      decode inOpcode.ctx.esc false [inOpcode.byte inOpcode.pos.toNat] = .instr .op2_05) ∧
    (inLength.phase = .lengthPhase ∧ inLength.pos.toNat + 2 = inLength.window ∧
      decode inLength.ctx.esc true [inLength.byte inLength.pos.toNat, inLength.byte (inLength.pos.toNat + 1)]
        = .instr .op2_38_00) ∧
    decode true true [0x00#8, 0x00#8] = .reject .noArm := by decide +kernel

/-- The clause of the rejected pair: `LENGTH` at `0F 00`, which only a state no run reaches has. -/
theorem witness_StepRunsTheDecodedInstruction_reject :
    (stateAt .lengthPhase ctx0F [0x0F#8, 0x00#8, 0x00#8] 3).pos.toNat + 1 <
      (stateAt .lengthPhase ctx0F [0x0F#8, 0x00#8, 0x00#8] 3).window := by decide +kernel

theorem witness_ExhaustedWindowIsInvalid :
    (stateAt .prefixPhase ctx66 [0x66#8] 1).running ∧
    (stateAt .prefixPhase ctx66 [0x66#8] 1).window = (stateAt .prefixPhase ctx66 [0x66#8] 1).pos.toNat := by
  decide +kernel

/-- For `PlacedWordIsTheNextInstruction` and `DecodeOfEncodeIsTheInstruction`. -/
theorem witness_wellFormed : WellFormed .op1_90 ∧ WellFormed (.op1_F6_r1 3#2 7#3) ∧ WellFormed (.op2_80_8F 15#4) ∧
    WellFormed .op2_3A_DF := by decide

theorem witness_PrefixRowConsumesItsByte :
    Instr.op1_0F.fields.entry.cat = .PFX ∧ Instr.op1_66.fields.entry.cat = .PFX ∧
    Instr.op1_67.fields.entry.cat = .PFX ∧ (Instr.op1_48_4F 7#3).fields.entry.cat = .PFX ∧
    (Instr.op1_40_47 0#3).fields.entry.cat = .PFX := by decide

/-- Whether a length of `k` bytes behind `66` just fits the window of `s`, and by one byte does not fit that of `t`: the
two clauses of each row statement. -/
def justFits (k : Nat) (s t : State) : Bool :=
  decide (s.ctx.pfx.toNat + k = s.window) && decide (t.window + 1 = t.ctx.pfx.toNat + k)

/-- A state in `PREFIX` behind `66` with `k` bytes left, all zero. -/
abbrev behind66 (k : Nat) : State := stateAt .prefixPhase ctx66 [0x66#8] (k + 1)

theorem witness_NoOperandRowGivesItsLength :
    Instr.op1_90.fields.entry.cat = .NP ∧ justFits 1 (behind66 1) (behind66 0) = true := by decide +kernel

theorem witness_FixedImmediateRowGivesItsLength :
    (Instr.op1_04.fields.entry.cat = .AI8 ∧ justFits 2 (behind66 2) (behind66 1) = true) ∧
    (Instr.op1_C2.fields.entry.cat = .I16 ∧ justFits 3 (behind66 3) (behind66 2) = true) ∧
    (Instr.op1_C8.fields.entry.cat = .II ∧ justFits 4 (behind66 4) (behind66 3) = true) := by decide +kernel

theorem witness_SelectedImmediateRowGivesItsLength :
    Instr.op1_05.fields.entry.cat = .AI ∧ (Instr.op1_B8_BF 0#3).fields = ⟨⟨.AI, true, false⟩, 0⟩ ∧
    immw machineConfig ctx66 true = 2 ∧ justFits 3 (behind66 3) (behind66 2) = true := by decide +kernel

theorem witness_BranchRowGivesItsLength :
    (Instr.op1_E8_E9 0#1).fields.entry.cat = .D ∧ ctx66.op16 = true ∧
    justFits 3 (behind66 3) (behind66 2) = true := by decide +kernel

/-- For `ModRmRowGivesItsLength` and the `MR` clause: zeros are a ModRM byte of size 1, which fits or does not. -/
theorem witness_ModRmRowGivesItsLength :
    Instr.op1_FF.fields.entry = ⟨.M, false, false⟩ ∧
    addr32 (behind66 2).byte 2 ((behind66 2).window - 2) = 1 ∧
    addr32 (behind66 1).byte 2 ((behind66 1).window - 2) = 0 := by decide +kernel

theorem witness_ModRmImm8RowGivesItsLength :
    Instr.op1_83.fields.entry = ⟨.MI8, false, false⟩ ∧
    addr32 (behind66 3).byte 2 ((behind66 3).window - 2) = 1 ∧ justFits 3 (behind66 3) (behind66 2) = true ∧
    addr32 (behind66 1).byte 2 ((behind66 1).window - 2) = 0 := by decide +kernel

theorem witness_ModRmImmwRowGivesItsLength :
    Instr.op1_81.fields.entry = ⟨.MI, false, false⟩ ∧ immw machineConfig ctx66 false = 2 ∧
    addr32 (behind66 4).byte 2 ((behind66 4).window - 2) = 1 ∧ justFits 4 (behind66 4) (behind66 3) = true ∧
    addr32 (behind66 1).byte 2 ((behind66 1).window - 2) = 0 := by decide +kernel

theorem witness_CategoriesOfTheSameShapeAgree :
    (Instr.op1_50_57 0#3).fields.entry = ⟨.O, false, false⟩ ∧ justFits 1 (behind66 1) (behind66 0) = true ∧
    (Instr.op1_8A_8B 1#1).fields.entry = ⟨.MR, false, false⟩ ∧ Instr.op2_A4.fields.entry = ⟨.MRI8, false, false⟩ ∧
    addr32 (behind66 3).byte 2 ((behind66 3).window - 2) = 1 ∧ justFits 3 (behind66 3) (behind66 2) = true ∧
    addr32 (behind66 1).byte 2 ((behind66 1).window - 2) = 0 := by decide +kernel

theorem witness_InvalidRowTakesDecodeFailure :
    (Instr.op1_06_07 0#1).fields.entry.cat = .INV ∧ (Instr.op2_38_other 0x0C#8).fields.entry.cat = .INV := by decide

theorem witness_MultiRowHandsOverOrFails :
    Instr.op1_F6.fields.entry.multi = true ∧
    (stateAt .prefixPhase Ctx.zero [0xF6#8, 5#8] 2).window = 2 ∧
    (stateAt .prefixPhase Ctx.zero [0xF6#8, 5#8] 1).window = 1 := by decide +kernel

/-- For the statements about every step: each phase has a state with the invariant. -/
theorem witness_inv_prefix : inPrefix.Inv :=
  ⟨by decide +kernel, fun _ => by decide +kernel, fun _ => by decide +kernel, fun _ => by decide +kernel,
    fun _ => rfl, fun _ => rfl, nofun, nofun, nofun⟩

theorem witness_inv_opcode : inOpcode.Inv :=
  ⟨by decide +kernel, fun _ => by decide +kernel, fun _ => by decide +kernel, fun _ => by decide +kernel,
    fun _ => rfl, nofun, fun _ => rfl, nofun, nofun⟩

theorem witness_inv_length : inLength.Inv :=
  ⟨by decide +kernel, fun _ => by decide +kernel, fun _ => by decide +kernel, fun _ => by decide +kernel,
    fun _ => rfl, nofun, nofun, fun _ => by decide +kernel, nofun⟩

/-- An idle state with the invariant that shows a length. -/
theorem witness_inv_idle :
    ({ stateAt .idle ctx66 [0x66#8, 0x90#8] 2 with outValid := true, outLen := 2 } : State).Inv :=
  ⟨by decide +kernel, fun h => absurd rfl h, fun h => absurd rfl h, fun h => absurd rfl h, fun h => absurd rfl h,
    nofun, nofun, nofun, fun _ => show 1 ≤ (2 : BitVec 4).toNat ∧ (2 : BitVec 4).toNat ≤ 2 by decide⟩

/-- For every statement whose hypothesis is a step (`StepLeavesTheBufferAlone`, `OnlyThePrefixPhaseWritesTheContext`,
`FlagsAndCountAreMonotonic`, `StepKeepsTheInvariant`): each of these states has a next one. -/
theorem witness_steps :
    stepMeets inPrefix (fun _ => true) = true ∧ stepMeets inOpcode (fun _ => true) = true ∧
    stepMeets inLength (fun _ => true) = true := by decide +kernel

/-- For `CallerAndResetKeepTheInvariant` and `CallerContract`: a launch with `len` at the end of the buffer is taken,
one byte more is refused, and a running block is not launched. -/
theorem witness_caller :
    State.reset.phase = .idle ∧ State.reset.mem.wf = true ∧ [0x90#8].length = 1 ∧ inPrefix.running ∧
    (match launch [0x90#8] 1 State.reset with | .next _ => true | _ => false) = true ∧
    (match launch [0x90#8] 2 State.reset with | .refused .untruthfulLength => true | _ => false) = true ∧
    (match launch [0x90#8] 1 inPrefix with | .refused .launchWhileBusy => true | _ => false) = true ∧
    (match callerStore 3 0x90#8 State.reset with | .next _ => true | _ => false) = true := by decide +kernel

/-- For `ResultDependsOnlyOnTheWindow` and `WindowIsClampedToFifteen`: two buffers that differ at offset 15 only. -/
theorem witness_window :
    (∀ i < min 20 15, bytesFrom (List.replicate 16 0x66#8) i = bytesFrom (List.replicate 15 0x66#8 ++ [0x90#8]) i) ∧
    bytesFrom (List.replicate 16 0x66#8) 15 ≠ bytesFrom (List.replicate 15 0x66#8 ++ [0x90#8]) 15 := by
  decide +kernel

theorem witness_EncodeOfDecodeIsTheBytes :
    decode false false [0x90#8, 0xFF#8] = .instr .op1_90 ∧ decode true true [0x38#8, 0x00#8] = .instr .op2_38_00 := by
  decide +kernel

theorem witness_ResolverRowsAgreeWithSpecial :
    (machineConfig.t1 0xF6#8).multi = true ∧ (machineConfig.t1 0xF7#8).multi = true ∧
    (machineConfig.t2 0x01#8).multi = true ∧ (machineConfig.t2 0x38#8).multi = true ∧
    (machineConfig.t2 0x3A#8).multi = true ∧
    special machineConfig (bytesFrom [0xF6#8, 0x10#8]) 0 2 false = .found .M 0 ∧
    special machineConfig (bytesFrom [0x01#8, 0xF8#8]) 0 2 true = .failed .specialUnlisted := by decide +kernel

/-- The nine clauses of `Addr32CaseByCase`, each at a size that just fits and at one byte less (part 2 of
`95_test_vectors.md`). -/
theorem witness_Addr32CaseByCase :
    [addr32 (bytesFrom [0xC0#8]) 0 1, addr32 (bytesFrom [0xC0#8]) 0 0,
     addr32 (bytesFrom [0x07#8]) 0 1, addr32 (bytesFrom [0x07#8]) 0 0,
     addr32 (bytesFrom [0x05#8]) 0 5, addr32 (bytesFrom [0x05#8]) 0 4,
     addr32 (bytesFrom [0x04#8, 0x25#8]) 0 6, addr32 (bytesFrom [0x04#8, 0x25#8]) 0 5] = [1, 0, 1, 0, 5, 0, 6, 0] ∧
    [addr32 (bytesFrom [0x04#8, 0x8D#8]) 0 2, addr32 (bytesFrom [0x04#8, 0x24#8]) 0 1,
     addr32 (bytesFrom [0x45#8]) 0 2, addr32 (bytesFrom [0x45#8]) 0 1,
     addr32 (bytesFrom [0x44#8]) 0 3, addr32 (bytesFrom [0x44#8]) 0 2,
     addr32 (bytesFrom [0x85#8]) 0 5, addr32 (bytesFrom [0x85#8]) 0 4,
     addr32 (bytesFrom [0x84#8]) 0 6, addr32 (bytesFrom [0x84#8]) 0 5] = [2, 0, 2, 0, 3, 0, 5, 0, 6, 0] := by
  decide +kernel

/-- The five clauses of `Addr16CaseByCase`, likewise. -/
theorem witness_Addr16CaseByCase :
    [addr16 (bytesFrom [0xC6#8]) 0 1, addr16 (bytesFrom [0xC6#8]) 0 0,
     addr16 (bytesFrom [0x05#8]) 0 1, addr16 (bytesFrom [0x05#8]) 0 0,
     addr16 (bytesFrom [0x06#8]) 0 3, addr16 (bytesFrom [0x06#8]) 0 2,
     addr16 (bytesFrom [0x46#8]) 0 2, addr16 (bytesFrom [0x46#8]) 0 1,
     addr16 (bytesFrom [0x84#8]) 0 3, addr16 (bytesFrom [0x84#8]) 0 2] = [1, 0, 1, 0, 3, 0, 2, 0, 3, 0] := by
  decide +kernel

/-- Six bytes for `Addr32` and three for `Addr16`: the premises of `AddressingReturnsAreBounded` at their bounds. -/
theorem witness_AddressingReturnsAreBounded :
    6 ≤ 6 ∧ addr32 (bytesFrom [0x84#8]) 0 6 = 6 ∧ 3 ≤ 3 ∧ addr16 (bytesFrom [0x84#8]) 0 3 = 3 := by decide +kernel

/-- The clauses of `ImmediateWidthTable`. -/
theorem witness_ImmediateWidthTable :
    immw machineConfig ⟨0, false, false, false, false⟩ true = 4 ∧
    immw machineConfig ⟨0, false, true, false, false⟩ true = 2 ∧
    immw machineConfig ⟨0, false, false, false, true⟩ true = 8 ∧
    immw machineConfig ⟨0, false, false, false, true⟩ false = 4 ∧
    machineConfig.immwBoth = .op16Wins ∧ immw machineConfig ⟨0, false, true, false, true⟩ true = 2 ∧
    immw { machineConfig with immwBoth := .rexwWins } ⟨0, false, true, false, true⟩ true = 8 := by decide +kernel

theorem witness_NonPositiveLengthGivesTheSentinel : (0 : Int) ≤ 0 ∧ (-3 : Int) ≤ 0 := by decide

/-- A valid configuration that is not the default one: `W01 = {F8}`, `REXW_WINS`. -/
theorem witness_validConfiguration :
    Config.Valid { machineConfig with w01 := [0xF8#8], immwBoth := .rexwWins, invalidSentinel := -15 } := by
  constructor <;> decide +kernel

/-- For `ReturnedLengthIsBounded` and `WindowMonotonicity`: the least and the greatest length. -/
theorem witness_lengths :
    decodeResult machineConfig (bytesFrom [0x90#8]) 1 = .valid 1 ∧
    decodeResult machineConfig (bytesFrom (List.replicate 14 0x66#8 ++ [0x90#8])) 15 = .valid 15 := by decide +kernel

/-- For `ReadsStayInsideTheWindow` and `UnreadBytesDoNotMatter`: `66 0F 38 00 04 25 ..` reads the SIB byte, three
behind the opcode byte, and no displacement byte. -/
theorem witness_reads :
    readOffsets machineConfig (bytesFrom [0x66#8, 0x0F#8, 0x38#8, 0#8, 0x04#8, 0x25#8]) 10 = [0, 1, 2, 3, 4, 5] ∧
    readOffsets machineConfig (bytesFrom [0xB8#8]) 5 = [0] ∧
    bytesFrom [0xB8#8] 0 = bytesFrom [0xB8#8, 1#8, 2#8, 3#8, 4#8] 0 := by decide +kernel

/-- `2E` in front of an instruction of 14 bytes. -/
theorem witness_UntrackedPrefixAddsOne :
    (machineConfig.t1 0x2E#8).cat = .PFX ∧ 0x2E#8 ≠ 0x0F#8 ∧ ¬(0x48#8 ≤ 0x2E#8 ∧ 0x2E#8 ≤ 0x4F#8) ∧
    decodeResult machineConfig (bytesFrom (List.replicate 13 0x66#8 ++ [0x90#8])) 14 = .valid 14 := by decide +kernel

/-- The prefix phase ends at the bound, at the escape, and at an opcode. -/
theorem witness_PrefixPhaseIsTheMaximalRun :
    (prefixPhaseEnd machineConfig (bytesFrom (List.replicate 15 0x66#8)) 15).pfx.toNat = 15 ∧
    prefixPhaseEnd machineConfig (bytesFrom [0x66#8, 0x0F#8, 0x66#8]) 3 = ⟨2, true, true, false, false⟩ ∧
    prefixPhaseEnd machineConfig (bytesFrom [0x4F#8, 0x67#8, 0x90#8]) 3 = ⟨2, false, false, true, true⟩ := by
  decide +kernel

theorem witness_ByteAfterTheEscapeIsTheOpcode :
    (machineConfig.t1 0x0F#8).cat = .PFX ∧ bytesFrom [0x0F#8, 0x66#8] 0 = 0x0F#8 := by decide +kernel

/-- The clauses of `EntriesWithoutARuleFail`: a `T2` that tags `10` as `PFX`, one that flags `10` as `multi`, a `T1` that
flags `50`, and `F7` without its arm. -/
theorem witness_EntriesWithoutARuleFail :
    decodeVerdict { machineConfig with t2 := fun _ => ⟨.PFX, false, false⟩ } (bytesFrom [0x0F#8, 0x10#8]) 2
      = .failure .noRule ∧
    decodeVerdict { machineConfig with t2 := fun _ => ⟨.M, false, true⟩ } (bytesFrom [0x0F#8, 0x10#8, 0#8]) 3
      = .failure .specialUnlisted ∧
    decodeVerdict { machineConfig with t1 := fun _ => ⟨.M, false, true⟩ } (bytesFrom [0x50#8, 0x10#8]) 2
      = .failure .specialUnlisted ∧
    (prefixPhaseEnd machineConfig (bytesFrom [0xF7#8, 0#8]) 2).pfx.toNat + 2 ≤ 2 := by decide +kernel

theorem witness_NoOperandOpcodeCannotFail :
    (activeEntry machineConfig Ctx.zero 0x90#8) = ⟨.NP, false, false⟩ ∧
    (activeEntry machineConfig Ctx.zero 0x57#8) = ⟨.O, false, false⟩ ∧
    prefixPhaseEnd machineConfig (bytesFrom [0x90#8]) 1 = Ctx.zero := by decide +kernel

theorem witness_RetryCannotMendAnInvalidOpcode :
    decodeVerdict machineConfig (bytesFrom [0x06#8]) 1 = .failure .invalidOpcode ∧
    decodeVerdict machineConfig (bytesFrom [0x0F#8, 0x38#8, 0x0C#8]) 3 = .failure .specialUnlisted ∧
    decodeVerdict { machineConfig with t2 := fun _ => ⟨.PFX, false, false⟩ } (bytesFrom [0x0F#8, 0x10#8]) 2
      = .failure .noRule := by decide +kernel

/-- Both ends of a sweep (program 5 stops, `90 90` is done). -/
theorem witness_SweepTilesTheCode :
    (sweep machineConfig [0x90#8, 0x90#8]).status = .done ∧
    (sweep machineConfig [0x90#8, 0x06#8]).status = .stoppedInvalid := by decide +kernel

/-- `BlocksDoNotInterfere` has no hypothesis; an interleaving of two blocks and of an index that names none. -/
theorem test_interleave_two_blocks :
    (interleave [1, 0, 7] [inOpcode, inPrefix]).map (fun t => (t.phase, t.result)) =
      [(.idle, .valid 2), (.idle, .valid 2)] ∧
    (interleave [0, 0, 7] [inOpcode, inPrefix]).map (·.phase) = [.idle, .prefixPhase] := by decide +kernel

/-- Block 1 of two has started `C3`, and the interleaving gives it exactly 16 steps. -/
theorem witness_InterleavedTransactionsEachComputeDecode :
    [inPrefix, startTransaction [0xC3#8] 1 State.reset][1]? = some (startTransaction [0xC3#8] 1 State.reset) ∧
    stepsToEnd = (0 :: List.replicate 16 1 ++ [0]).count 1 := ⟨rfl, by decide⟩

end Sys2Proof.Tests
end

section
/-! PROOFS (10_state.md). What one step of a block with the invariant can do, the invariant and what follows from it
for the Decode Context (R23 to R28, R35, R220). -/

namespace Sys2Proof.Machine

/-! ### One step of a block with the invariant -/

/-- What the next state of a block with the invariant can be (R35): said once, so that every rule about steps is a
case analysis over these five. -/
inductive BlockStep (s : State) : State → Prop
  /-- R261. -/
  | waits : s.phase = .idle → BlockStep s s
  /-- R230. -/
  | fails (c : Cause) : s.running → BlockStep s (takeDecodeFailure c s)
  /-- R190, R191, R194 to R198. -/
  | consumes : s.phase = .prefixPhase → s.ctx.pfx.toNat < s.window →
      (machineConfig.t1 (s.byte s.ctx.pfx.toNat)).cat = .PFX →
      BlockStep s (consumeByte (fun _ => s.ctx.consume (s.byte s.ctx.pfx.toNat))
        (if s.byte s.ctx.pfx.toNat = 0x0F#8 then .opcodePhase else .prefixPhase) s)
  /-- R171, R199. -/
  | handsOver : s.running → s.phase ≠ .lengthPhase → s.ctx.pfx.toNat + 2 ≤ s.window →
      (activeEntry machineConfig s.ctx (s.byte s.ctx.pfx.toNat)).multi = true →
      BlockStep s (State.driveUnspecified { s with phase := .lengthPhase })
  /-- R201. -/
  | sizes (cat : Category) (imm64 : Bool) (extra : Nat) : s.running →
      BlockStep s (resolveLength cat imm64 extra s)

theorem running_of_phase {s : State} {p : Phase} (h : s.phase = p) (hp : p ≠ .idle) : s.running := by
  rw [State.running, h]; exact hp

/-- The two phases that look up the byte at the cursor (R190, R193). -/
theorem lookup_phase {s : State} (hr : s.running) (hl : s.phase ≠ .lengthPhase) :
    s.phase = .prefixPhase ∨ s.phase = .opcodePhase := by
  cases h : s.phase with
  | idle => exact absurd h hr
  | prefixPhase => exact .inl rfl
  | opcodePhase => exact .inr rfl
  | lengthPhase => exact absurd h hl

@[simp] theorem resolveLength_phase (cat : Category) (imm64 : Bool) (extra : Nat) (s : State) :
    (resolveLength cat imm64 extra s).phase = .idle := by
  obtain ⟨h, -, -, -⟩ := resolveLength_frame cat imm64 extra s
  exact h

@[simp] theorem resolveLength_ctx (cat : Category) (imm64 : Bool) (extra : Nat) (s : State) :
    (resolveLength cat imm64 extra s).ctx = s.ctx := by
  obtain ⟨-, h, -, -⟩ := resolveLength_frame cat imm64 extra s
  exact h

@[simp] theorem resolveLength_mem (cat : Category) (imm64 : Bool) (extra : Nat) (s : State) :
    (resolveLength cat imm64 extra s).mem = s.mem := by
  obtain ⟨-, -, -, h⟩ := resolveLength_frame cat imm64 extra s
  exact h

/-- Before the escape is consumed the active table is `T1` (R193). -/
theorem activeEntry_prefixPhase {s : State} (hs : s.Inv) (h : s.phase = .prefixPhase) (b : Byte) :
    activeEntry machineConfig s.ctx b = machineConfig.t1 b := by
  simp [activeEntry, hs.prefixes h]

/-- After the escape it is `T2`, which tags no byte `PFX` (R123). -/
theorem activeEntry_opcodePhase_not_pfx {s : State} (hs : s.Inv) (h : s.phase = .opcodePhase) (b : Byte) :
    (activeEntry machineConfig s.ctx b).cat ≠ .PFX := by
  simpa [activeEntry, hs.opcode h] using t2_no_pfx b

/-- The step that looks up the byte at the cursor, by the entry it finds (R193). -/
theorem step_lookup {s : State} (hs : s.Inv) (hr : s.running) (hl : s.phase ≠ .lengthPhase)
    (hn : s.ctx.pfx.toNat < s.window) : ∃ t, step s = .next t ∧ BlockStep s t := by
  have hpos := hs.cursor hr
  obtain ⟨onPfx, onMulti, onFinal⟩ := step_entry hr hl (by rwa [hpos]) rfl
  rw [hpos] at onPfx onMulti onFinal
  by_cases hc : (activeEntry machineConfig s.ctx (s.byte s.ctx.pfx.toNat)).cat = .PFX
  · have hp : s.phase = .prefixPhase :=
      (lookup_phase hr hl).resolve_right fun h => activeEntry_opcodePhase_not_pfx hs h _ hc
    rw [onPfx hc, ← Ctx.consume_pfx s.ctx (s.byte s.ctx.pfx.toNat)]
    exact ⟨_, rfl, .consumes hp hn (activeEntry_prefixPhase hs hp _ ▸ hc)⟩
  cases hm : (activeEntry machineConfig s.ctx (s.byte s.ctx.pfx.toNat)).multi with
  | true =>
    refine ⟨_, onMulti hm, ?_⟩
    by_cases h2 : s.ctx.pfx.toNat + 2 ≤ s.window
    · rw [enterResolver_ready h2]; exact .handsOver hr hl h2 hm
    · rw [enterResolver_short (by omega)]; exact .fails _ hr
  | false => exact ⟨_, onFinal hm hc, .sizes _ _ _ hr⟩

/-- The step of a block that resolves a pair (R178, R199). -/
theorem step_resolves {s : State} (hs : s.Inv) (hl : s.phase = .lengthPhase) :
    ∃ t, step s = .next t ∧ BlockStep s t := by
  have hr := running_of_phase hl (by decide)
  have hpos := hs.cursor hr
  obtain ⟨h2, hm⟩ := hs.resolver hl
  refine ⟨_, step_pair hl (by rwa [hpos]) (by rwa [hpos]), ?_⟩
  split
  · exact .sizes _ _ _ hr
  · exact .fails _ hr

/-- Every step of a block with the invariant is one of the five. -/
theorem step_blockStep {s t : State} (hs : s.Inv) (h : step s = .next t) : BlockStep s t := by
  suffices ∃ u, step s = .next u ∧ BlockStep s u by
    obtain ⟨u, hu, hb⟩ := this
    cases hu.symm.trans h
    exact hb
  by_cases hi : s.phase = .idle
  · exact ⟨s, step_idle hi, .waits hi⟩
  by_cases hl : s.phase = .lengthPhase
  · exact step_resolves hs hl
  by_cases hn : s.ctx.pfx.toNat < s.window
  · exact step_lookup hs hi hl hn
  · exact ⟨_, step_exhausted hi (by rw [hs.cursor hi]; omega), .fails _ hi⟩

/-! ### The ports of a finished transaction -/

/-- A computed length of at least 1 leaves legal ports: it fits the 4-bit port because it is in the window (R219). -/
theorem returnLength_portsLegal {L : Nat} (hL : 1 ≤ L) (s : State) : (returnLength L s).portsLegal := by
  by_cases h : L ≤ s.window
  · have h15 := window_le_fifteen s
    have hto : (BitVec.ofNat 4 L).toNat = L := by rw [BitVec.toNat_ofNat]; omega
    rw [returnLength_valid h]
    exact ⟨hto.symm ▸ hL, hto.symm ▸ h⟩
  · rw [returnLength_truncated (by omega)]; rfl

theorem sizePlain_portsLegal {bytes : Nat} (hb : 1 ≤ bytes) (extra : Nat) (s : State) :
    (sizePlain bytes extra s).portsLegal :=
  returnLength_portsLegal (by omega) _

theorem sizeModRM_portsLegal (extra imm : Nat) (s : State) : (sizeModRM extra imm s).portsLegal := by
  dsimp only [sizeModRM]
  split
  · rfl
  · exact returnLength_portsLegal (by omega) _

/-- Every arm counts the opcode byte, so what it shows is legal (R33, R205 to R219). -/
theorem resolveLength_portsLegal (cat : Category) (imm64 : Bool) (extra : Nat) (s : State) :
    (resolveLength cat imm64 extra s).portsLegal := by
  cases cat with
  | INV | PFX => rfl
  | NP | O | AI8 | AI | D | I16 | II => exact sizePlain_portsLegal (by omega) _ _
  | M | MR | MI8 | MRI8 | MI => exact sizeModRM_portsLegal _ _ _

/-! ### The invariant -/

/-- The registers of an idle block are dead (R240): only the buffer and the ports count. -/
theorem inv_of_idle {s : State} (hi : s.phase = .idle) (hm : s.mem.wf = true) (hp : s.portsLegal) : s.Inv where
  memory := hm
  count hr := absurd hi hr
  context hr := absurd hi hr
  tagged hr := absurd hi hr
  cursor hr := absurd hi hr
  prefixes h := nomatch hi.symm.trans h
  opcode h := nomatch hi.symm.trans h
  resolver h := nomatch hi.symm.trans h
  ports _ := hp

/-- Consuming the `PFX` byte at the cursor: it is inside the window, so the 4-bit count does not wrap (R27, R190). -/
theorem consumeByte_inv {s : State} (hs : s.Inv) (hp : s.phase = .prefixPhase)
    (hn : s.ctx.pfx.toNat < s.window) (hc : (machineConfig.t1 (s.byte s.ctx.pfx.toNat)).cat = .PFX) :
    (consumeByte (fun _ => s.ctx.consume (s.byte s.ctx.pfx.toNat))
      (if s.byte s.ctx.pfx.toNat = 0x0F#8 then .opcodePhase else .prefixPhase) s).Inv := by
  have hr := running_of_phase hp (by decide)
  have hcount : (s.ctx.consume (s.byte s.ctx.pfx.toNat)).pfx.toNat = s.ctx.pfx.toNat + 1 :=
    consume_pfx_toNat (by have := window_le_fifteen s; omega)
  have hesc : (s.ctx.consume (s.byte s.ctx.pfx.toNat)).esc = decide (s.byte s.ctx.pfx.toNat = 0x0F#8) := by
    rw [Ctx.consume_esc, hs.prefixes hp, Bool.false_or]
  constructor
  case memory => exact hs.memory
  case count =>
    intro _
    rw [consumeByte_ctx, hcount]
    exact hn
  case context =>
    intro _
    rw [consumeByte_ctx, hcount]
    exact congrArg (Ctx.consume · _) (hs.context hr)
  case tagged =>
    intro _ i hi
    rw [consumeByte_ctx, hcount] at hi
    obtain h | rfl := Nat.lt_succ_iff_lt_or_eq.mp hi
    · exact hs.tagged hr i h
    · exact hc
  case cursor => exact fun _ => rfl
  case prefixes => intro h; simpa [hesc] using h
  case opcode => intro h; simpa [hesc] using h
  case resolver => intro h; rw [consumeByte_phase] at h; split at h <;> nomatch h
  case ports => intro h; rw [consumeByte_phase] at h; split at h <;> nomatch h

/-- The hand-over to the resolver keeps the registers and has checked the second byte (R171, R199). -/
theorem handOver_inv {s : State} (hs : s.Inv) (hr : s.running) (h2 : s.ctx.pfx.toNat + 2 ≤ s.window)
    (hm : (activeEntry machineConfig s.ctx (s.byte s.ctx.pfx.toNat)).multi = true) :
    (State.driveUnspecified { s with phase := .lengthPhase }).Inv where
  memory := hs.memory
  count _ := hs.count hr
  context _ := hs.context hr
  tagged _ := hs.tagged hr
  cursor _ := hs.cursor hr
  prefixes h := nomatch h
  opcode h := nomatch h
  resolver _ := ⟨h2, hm⟩
  ports h := nomatch h

/-- Each of the five steps keeps the invariant. -/
theorem BlockStep.keeps_inv {s t : State} (h : BlockStep s t) (hs : s.Inv) : t.Inv := by
  cases h with
  | waits => exact hs
  | fails c => exact inv_of_idle rfl hs.memory rfl
  | consumes hp hn hc => exact consumeByte_inv hs hp hn hc
  | handsOver hr _ h2 hm => exact handOver_inv hs hr h2 hm
  | sizes cat imm64 extra =>
    exact inv_of_idle (resolveLength_phase ..) (by rw [resolveLength_mem]; exact hs.memory)
      (resolveLength_portsLegal ..)

/-- Settles O21: every step of a block with the invariant is one of five, and each of them keeps it. -/
theorem stepKeepsTheInvariant : Obligations.StepKeepsTheInvariant :=
  fun _ _ hs h => (step_blockStep hs h).keeps_inv hs

/-- Settles O22: the reset block is idle with tied-off ports and an empty buffer. -/
theorem resetMeetsTheInvariant : Obligations.ResetMeetsTheInvariant :=
  inv_of_idle rfl rfl rfl

/-! ### Who writes the Decode Context -/

/-- A step outside `PREFIX` leaves the Decode Context alone (R25). -/
theorem BlockStep.ctx_eq {s t : State} (h : BlockStep s t) (hp : s.phase ≠ .prefixPhase) : t.ctx = s.ctx := by
  cases h with
  | waits | fails | handsOver => rfl
  | consumes h => exact absurd h hp
  | sizes => exact resolveLength_ctx ..

/-- A row that is no `PFX` row leaves the context and the caller's inputs alone (R25, R51). -/
theorem exec_frame {i : Instr} {s t : State} (hc : i.fields.entry.cat ≠ .PFX) (h : exec i s = .next t) :
    sameInputsAndContext s t := by
  cases hm : i.fields.entry.multi with
  | true =>
    cases (exec_multi s hm).symm.trans h
    obtain ⟨hctx, -, hlen, hmem⟩ := enterResolver_frame s
    exact ⟨hctx, hlen, hmem⟩
  | false =>
    cases (exec_final s hm hc).symm.trans h
    obtain ⟨-, hframe⟩ := resolveLength_frame i.fields.entry.cat i.fields.entry.imm64 i.fields.extra s
    exact hframe

/-- Settles O19: by the row's fields, and by the five kinds of step. -/
theorem onlyThePrefixPhaseWritesTheContext : Obligations.OnlyThePrefixPhaseWritesTheContext :=
  ⟨fun _ _ _ hc h => exec_frame hc h, fun _ _ hs hp h => (step_blockStep hs h).ctx_eq hp⟩

/-- The order of R24: `y` has every flag of `x`, and a count that is not lower. -/
def Ctx.le (x y : Ctx) : Prop :=
  (x.esc = true → y.esc = true) ∧ (x.op16 = true → y.op16 = true) ∧ (x.addr16 = true → y.addr16 = true) ∧
    (x.rexw = true → y.rexw = true) ∧ x.pfx.toNat ≤ y.pfx.toNat

theorem Ctx.le_of_eq {x y : Ctx} (h : y = x) : x.le y := h ▸ ⟨id, id, id, id, Nat.le_refl _⟩

/-- Below the wrap of the 4-bit count a consumed byte only adds (R191, R194 to R198). -/
theorem Ctx.le_consume {x : Ctx} (h : x.pfx.toNat < 15) (b : Byte) : x.le (x.consume b) := by
  refine ⟨?_, ?_, ?_, ?_, ?_⟩
  · rw [Ctx.consume_esc]; exact fun h => by rw [h, Bool.true_or]
  · rw [Ctx.consume_op16]; exact fun h => by rw [h, Bool.true_or]
  · rw [Ctx.consume_addr16]; exact fun h => by rw [h, Bool.true_or]
  · rw [Ctx.consume_rexw]; exact fun h => by rw [h, Bool.true_or]
  · rw [consume_pfx_toNat h]; omega

/-- Settles O20: `PREFIX` consumes a byte below the window, and no other phase writes the context. -/
theorem flagsAndCountAreMonotonic : Obligations.FlagsAndCountAreMonotonic := by
  intro s t hs h
  have hb := step_blockStep hs h
  change s.ctx.le t.ctx
  cases hb with
  | waits | fails | handsOver => exact Ctx.le_of_eq rfl
  | consumes _ hn => exact Ctx.le_consume (by have := window_le_fifteen s; omega) _
  | sizes => exact Ctx.le_of_eq (resolveLength_ctx ..)

end Sys2Proof.Machine
end

section
/-! PROOFS (10_state.md, 60_exceptions.md, 70_reset_and_hazards.md). Noninterference: two blocks that differ outside
the window of their transactions stay in lockstep (R22, R31, R53, R54), and every transaction ends (R223, R265). -/

namespace Sys2Proof.Machine

/-! ### The addressing size unit reads inside the window -/

theorem addr16_congr {buf buf' : Nat → Byte} {o rem : Nat} (h : ∀ j < rem, buf (o + j) = buf' (o + j)) :
    addr16 buf o rem = addr16 buf' o rem := by
  unfold addr16
  split
  · rfl
  · have hm : buf o = buf' o := h 0 (by omega)
    simp only [hm]

theorem addr32_congr {buf buf' : Nat → Byte} {o rem : Nat} (h : ∀ j < rem, buf (o + j) = buf' (o + j)) :
    addr32 buf o rem = addr32 buf' o rem := by
  unfold addr32
  split
  · rfl
  · have hm : buf o = buf' o := h 0 (by omega)
    by_cases h2 : rem < 2
    · simp only [hm, if_pos h2]
    · rw [hm, h 1 (by omega)]

/-- Whatever resolver `addr16` selects reads the `rem` bytes from `o` on and no others (R53, R55). -/
theorem addrSize_congr {buf buf' : Nat → Byte} {o rem : Nat} (x : Ctx)
    (h : ∀ j < rem, buf (o + j) = buf' (o + j)) : addrSize x buf o rem = addrSize x buf' o rem := by
  unfold addrSize
  rw [addr16_congr h, addr32_congr h]

/-! ### Two blocks on the same window -/

/-- Two blocks at the same point of two transactions on the same window: what may differ is the bytes outside the
window and the unspecified ports of a running block (R37, R54). -/
structure SameWindow (s s' : State) : Prop where
  phase : s.phase = s'.phase
  ctx : s.ctx = s'.ctx
  pos : s.pos = s'.pos
  inLen : s.inLen = s'.inLen
  bytes : ∀ i < s.window, s.byte i = s'.byte i
  result : s.phase = .idle → s.result = s'.result

namespace SameWindow

protected theorem window {s s' : State} (h : SameWindow s s') : s.window = s'.window :=
  congrArg (min · maxLen) h.inLen

protected theorem buf {s s' : State} (h : SameWindow s s') (i : Nat) : s.buf i = s'.buf i := by
  by_cases hi : i < s.window
  · rw [buf_inside hi, buf_inside (h.window ▸ hi), h.bytes i hi]
  · rw [buf_outside (by omega), buf_outside (by rw [← h.window]; omega)]

protected theorem bytesAt {s s' : State} (h : SameWindow s s') (k i : Nat) : s.bytesAt i k = s'.bytesAt i k := by
  induction k generalizing i with
  | zero => rfl
  | succ k ih => simp only [State.bytesAt, h.buf, ih]

/-- Both decode the same, because every examined byte is read behind its guard (R53). -/
protected theorem decodeAtCursor {s s' : State} (h : SameWindow s s') : s.decodeAtCursor = s'.decodeAtCursor := by
  have hres : s.resolving = s'.resolving := congrArg (fun p => decide (p = Phase.lengthPhase)) h.phase
  simp only [State.decodeAtCursor, State.examined, hres, h.bytesAt, h.ctx, h.pos]

protected theorem takeDecodeFailure {s s' : State} (h : SameWindow s s') (c : Cause) :
    SameWindow (takeDecodeFailure c s) (takeDecodeFailure c s') :=
  ⟨rfl, h.ctx, h.pos, h.inLen, h.bytes, fun _ => rfl⟩

protected theorem returnLength {s s' : State} (h : SameWindow s s') (L : Nat) :
    SameWindow (returnLength L s) (returnLength L s') := by
  by_cases hL : L ≤ s.window
  · rw [returnLength_valid hL, returnLength_valid (h.window ▸ hL)]
    exact ⟨rfl, h.ctx, h.pos, h.inLen, h.bytes, fun _ => rfl⟩
  · rw [returnLength_truncated (by omega), returnLength_truncated (by rw [← h.window]; omega)]
    exact h.takeDecodeFailure _

protected theorem advance {s s' : State} (h : SameWindow s s') (opc : Nat) :
    SameWindow (s.advance opc) (s'.advance opc) :=
  ⟨h.phase, h.ctx, by rw [advance_pos, advance_pos, h.ctx], h.inLen, h.bytes, h.result⟩

protected theorem enterResolver {s s' : State} (h : SameWindow s s') :
    SameWindow (enterResolver s) (enterResolver s') := by
  by_cases h2 : s.ctx.pfx.toNat + 2 ≤ s.window
  · rw [enterResolver_ready h2, enterResolver_ready (by rwa [← h.ctx, ← h.window])]
    exact ⟨rfl, h.ctx, h.pos, h.inLen, h.bytes, nofun⟩
  · rw [enterResolver_short (by omega), enterResolver_short (by rw [← h.ctx, ← h.window]; omega)]
    exact h.takeDecodeFailure _

protected theorem sizePlain {s s' : State} (h : SameWindow s s') (bytes extra : Nat) :
    SameWindow (sizePlain bytes extra s) (sizePlain bytes extra s') := by
  unfold sizePlain
  rw [h.ctx]
  exact (h.advance _).returnLength _

protected theorem sizeModRM {s s' : State} (h : SameWindow s s') (extra imm : Nat) :
    SameWindow (sizeModRM extra imm s) (sizeModRM extra imm s') := by
  have ha := addrSize_congr s.ctx (buf := s.byte) (buf' := s'.byte) (o := s.ctx.pfx.toNat + (1 + extra))
    (rem := s.window - (s.ctx.pfx.toNat + (1 + extra))) fun j hj => h.bytes _ (by omega)
  unfold sizeModRM
  dsimp only
  rw [ha, h.ctx, h.window]
  split
  · exact (h.advance _).takeDecodeFailure _
  · exact (h.advance _).returnLength _

protected theorem resolveLength {s s' : State} (h : SameWindow s s') (cat : Category) (imm64 : Bool) (extra : Nat) :
    SameWindow (resolveLength cat imm64 extra s) (resolveLength cat imm64 extra s') := by
  have hw := congrArg (immw machineConfig) h.ctx
  cases cat with
  | INV => exact h.takeDecodeFailure .invalidOpcode
  | PFX => exact h.takeDecodeFailure .noRule
  | NP | O | AI8 | I16 | II => exact h.sizePlain _ _
  | M | MR | MI8 | MRI8 => exact h.sizeModRM _ _
  | MI => simpa only [resolveLength, catMI, hw] using h.sizeModRM extra _
  | AI => simpa only [resolveLength, catAI, hw] using h.sizePlain _ extra
  | D => simpa only [resolveLength, catD, hw] using h.sizePlain _ extra

/-- Running the same row keeps the two blocks in lockstep. -/
protected theorem exec {s s' t t' : State} (h : SameWindow s s') {i : Instr} (ht : exec i s = .next t)
    (ht' : exec i s' = .next t') : SameWindow t t' := by
  by_cases hc : i.fields.entry.cat = .PFX
  · cases (exec_pfx s hc).symm.trans ht
    cases (exec_pfx s' hc).symm.trans ht'
    refine ⟨rfl, ?_, ?_, h.inLen, h.bytes, ?_⟩
    · exact congrArg (Ctx.consume · _) h.ctx
    · exact congrArg (fun x => x.pfx + 1) h.ctx
    · intro hi; rw [driveUnspecified_phase] at hi; dsimp only at hi; split at hi <;> nomatch hi
  cases hm : i.fields.entry.multi with
  | true =>
    cases (exec_multi s hm).symm.trans ht
    cases (exec_multi s' hm).symm.trans ht'
    exact h.enterResolver
  | false =>
    cases (exec_final s hm hc).symm.trans ht
    cases (exec_final s' hm hc).symm.trans ht'
    exact h.resolveLength _ _ _

/-- A step keeps the two blocks in lockstep (R31, R54). -/
protected theorem step {s s' t t' : State} (h : SameWindow s s') (ht : step s = .next t) (ht' : step s' = .next t') :
    SameWindow t t' := by
  by_cases hi : s.phase = .idle
  · cases (step_idle hi).symm.trans ht
    cases (step_idle (h.phase ▸ hi)).symm.trans ht'
    exact h
  have hi' : s'.phase ≠ .idle := h.phase ▸ hi
  rw [step_running hi] at ht
  rw [step_running hi', ← h.decodeAtCursor] at ht'
  cases hd : s.decodeAtCursor with
  | instr i =>
    rw [hd] at ht ht'
    exact h.exec ht ht'
  | reject r =>
    rw [hd] at ht ht'
    cases ht
    cases ht'
    exact h.takeDecodeFailure _

end SameWindow

/-! ### Runs -/

/-- Every step answers a next state: there is no stuck state (R265). -/
theorem step_next (s : State) : ∃ t, step s = .next t := by
  by_cases hi : s.phase = .idle
  · exact ⟨s, step_idle hi⟩
  rw [step_running hi]
  split
  · exact exec_next _ s
  · exact ⟨_, rfl⟩

theorem runSteps_of_step {s t : State} (h : step s = .next t) (k : Nat) : runSteps (k + 1) s = runSteps k t := by
  simp only [runSteps, h]

theorem SameWindow.runSteps {s s' : State} (h : SameWindow s s') (k : Nat) :
    SameWindow (runSteps k s) (runSteps k s') := by
  induction k generalizing s s' with
  | zero => exact h
  | succ k ih =>
    obtain ⟨t, ht⟩ := step_next s
    obtain ⟨t', ht'⟩ := step_next s'
    rw [runSteps_of_step ht, runSteps_of_step ht']
    exact ih (h.step ht ht')

/-- How many steps a block can still take before it is idle (R223): one for each window byte that may be consumed, one
for the opcode or the exhausted window, one for the resolver, which needs two bytes of the window itself. -/
def State.stepsLeft (s : State) : Nat :=
  match s.phase with
  | .idle => 0
  | .prefixPhase | .opcodePhase => s.window - s.ctx.pfx.toNat + 1
  | .lengthPhase => 1

theorem stepsLeft_idle {s : State} (h : s.phase = .idle) : s.stepsLeft = 0 := by
  simp only [State.stepsLeft, h]

theorem stepsLeft_lookup {s : State} (h : s.phase = .prefixPhase ∨ s.phase = .opcodePhase) :
    s.stepsLeft = s.window - s.ctx.pfx.toNat + 1 := by
  obtain h | h := h <;> simp only [State.stepsLeft, h]

theorem stepsLeft_pos {s : State} (hr : s.running) : 0 < s.stepsLeft := by
  unfold State.stepsLeft
  split
  · contradiction
  all_goals omega

/-- Every step of a running block leaves fewer to take. -/
theorem BlockStep.stepsLeft_lt {s t : State} (h : BlockStep s t) (hr : s.running) :
    t.stepsLeft < s.stepsLeft := by
  cases h with
  | waits hi => exact absurd hi hr
  | fails c => exact stepsLeft_pos hr
  | consumes hp hn =>
    have h15 := window_le_fifteen s
    have hnext (b : Byte) : (if b = 0x0F#8 then Phase.opcodePhase else .prefixPhase) = .prefixPhase ∨
        (if b = 0x0F#8 then Phase.opcodePhase else .prefixPhase) = .opcodePhase := by
      split <;> simp
    rw [stepsLeft_lookup (hnext _), stepsLeft_lookup (.inl hp), consumeByte_ctx, consumeByte_window,
      consume_pfx_toNat (by omega)]
    omega
  | handsOver _ hl h2 =>
    rw [stepsLeft_lookup (lookup_phase hr hl)]
    change 1 < _
    omega
  | sizes =>
    rw [stepsLeft_idle (resolveLength_phase ..)]
    exact stepsLeft_pos hr

/-- A run of enough steps ends the transaction. -/
theorem runSteps_ends {s : State} (hs : s.Inv) {k : Nat} (hk : s.stepsLeft ≤ k) :
    (runSteps k s).phase = .idle := by
  induction k generalizing s with
  | zero =>
    by_contra hr
    have := stepsLeft_pos (s := s) hr
    omega
  | succ k ih =>
    by_cases hi : s.phase = .idle
    · rwa [runSteps_idle hi]
    obtain ⟨t, ht⟩ := step_next s
    have hb := step_blockStep hs ht
    rw [runSteps_of_step ht]
    exact ih (hb.keeps_inv hs) (by have := hb.stepsLeft_lt hi; omega)

/-! ### Whole transactions -/

/-- A started transaction meets the invariant, whatever the block did before (R36, R264). -/
theorem startTransaction_inv (bs : List Byte) (len : Nat) (s : State) : (startTransaction bs len s).Inv where
  memory := MemoryLaws.ofBytes_wf bs
  count _ := Nat.zero_le _
  context _ := rfl
  tagged _ := nofun
  cursor _ := rfl
  prefixes _ := rfl
  opcode := nofun
  resolver := nofun
  ports := nofun

/-- 16 steps end every transaction (R223, R265). -/
theorem transact_phase (bs : List Byte) (len : Nat) (s : State) : (transact bs len s).phase = .idle := by
  refine runSteps_ends (startTransaction_inv bs len s) ?_
  have h15 := window_le_fifteen (startTransaction bs len s)
  rw [stepsLeft_lookup (.inl rfl)]
  simp only [stepsToEnd, maxLen]
  omega

theorem startTransaction_sameWindow {bs bs' : List Byte} {len : Nat}
    (h : ∀ i < min len 15, bytesFrom bs i = bytesFrom bs' i) (s s' : State) :
    SameWindow (startTransaction bs len s) (startTransaction bs' len s') where
  phase := rfl
  ctx := rfl
  pos := rfl
  inLen := rfl
  bytes i hi := by
    rw [startTransaction_byte, startTransaction_byte, MemoryLaws.read_ofBytes, MemoryLaws.read_ofBytes]
    exact h i hi
  result := nofun

/-- The result of a transaction is a function of its window (R22, R31). -/
theorem transact_result_congr {bs bs' : List Byte} {len : Nat}
    (h : ∀ i < min len 15, bytesFrom bs i = bytesFrom bs' i) (s s' : State) :
    (transact bs len s).result = (transact bs' len s').result :=
  ((startTransaction_sameWindow h s s').runSteps stepsToEnd).result (transact_phase bs len s)

/-- Settles O25: the two transactions run in lockstep to their ends, from any states, a reset one among them. -/
theorem resultDependsOnlyOnTheWindow : Obligations.ResultDependsOnlyOnTheWindow :=
  fun _ _ _ s s' h => ⟨transact_result_congr h s s', transact_result_congr h (hardwareReset s) s'⟩

end Sys2Proof.Machine
end

section
/-! PROOFS (10_state.md). Reset, the decoded instruction of a step, the caller's contract and the software binding
(R34 to R37, R199, R266). -/

namespace Sys2Proof.Machine

/-- Settles O1: every register and port that a reset writes, and the inputs it does not (R37). -/
theorem resetIsIdleAndZero : Obligations.ResetIsIdleAndZero := by
  refine ⟨fun s => ?_, rfl⟩
  simp [Ctx.zero]

/-- In `LENGTH` the pair at the cursor is decoded by the resolver's rows (R199). -/
theorem decodeAtCursor_pair {s : State} (hl : s.phase = .lengthPhase) (h : s.pos.toNat + 1 < s.window) :
    s.decodeAtCursor = decode s.ctx.esc true [s.byte s.pos.toNat, s.byte (s.pos.toNat + 1)] := by
  have h0 : s.pos.toNat < s.window := by omega
  simp [State.decodeAtCursor, State.examined, resolving_eq_true hl, State.bytesAt, buf_inside h0, buf_inside h]

/-- Settles O3: by what the guarded reads at the cursor give, one byte or a pair. -/
theorem stepRunsTheDecodedInstruction : Obligations.StepRunsTheDecodedInstruction := by
  refine ⟨fun s i hp hn hd => ?_, fun s i hl hn hd => ?_, fun s r hl hn hd => ?_⟩
  · have hr : s.running := by obtain h | h := hp <;> exact running_of_phase h (by decide)
    have hl : s.phase ≠ .lengthPhase := by obtain h | h := hp <;> rw [h] <;> decide
    have he : s.decodeAtCursor = .instr i := (decodeAtCursor_entry hl hn).trans hd
    rw [step_running hr, he]
  · have hr := running_of_phase hl (by decide)
    rw [step_running hr, decodeAtCursor_pair hl hn, hd]
  · have hr := running_of_phase hl (by decide)
    rw [step_running hr, decodeAtCursor_pair hl hn, hd]
    rfl

theorem launch_idle {bs : List Byte} {len : Nat} {s : State} (hi : s.phase = .idle) (h : len ≤ bs.length) :
    launch bs len s = .next (startTransaction bs len s) := by
  rw [launch, if_neg (not_not.mpr hi), if_neg (Nat.not_lt.mpr h)]

theorem launch_busy {bs : List Byte} {len : Nat} {s : State} (hr : s.running) :
    launch bs len s = .refused .launchWhileBusy := if_pos hr

theorem launch_untruthful {bs : List Byte} {len : Nat} {s : State} (hi : s.phase = .idle)
    (h : bs.length < len) : launch bs len s = .refused .untruthfulLength := by
  rw [launch, if_neg (not_not.mpr hi), if_pos h]

theorem callerStore_busy {k : Nat} {b : Byte} {s : State} (hr : s.running) :
    callerStore k b s = .refused .windowWritten := if_pos hr

/-- Settles O26: the launch by the started transaction, the refusals by name. -/
theorem callerContract : Obligations.CallerContract := by
  refine ⟨fun bs len s hi hlen => ?_, fun _ _ _ hr => launch_busy hr, fun _ _ _ hi h => launch_untruthful hi h,
    fun _ _ _ hr => callerStore_busy hr⟩
  exact ⟨_, launch_idle hi hlen, rfl, rfl, rfl, rfl, fun i => MemoryLaws.read_ofBytes bs i⟩

/-- A window of no bytes has no opcode (R192). -/
theorem decodeVerdict_empty (c : Config) (buf : Nat → Byte) : decodeVerdict c buf 0 = .failure .noOpcode := by
  rw [decodeVerdict, Nat.zero_min]
  exact if_pos (Nat.zero_le _)

/-- Settles O41: a length that is not positive is bound as 0 (R34). -/
theorem nonPositiveLengthGivesTheSentinel : Obligations.NonPositiveLengthGivesTheSentinel := by
  intro c bs len h
  have h0 : bindingLen len = 0 := Int.toNat_of_nonpos h
  rw [softwareDecode, h0, decodeResult, decodeVerdict_empty]
  rfl

end Sys2Proof.Machine
end

section
/-! PROOFS (20_memory.md). The caller's buffer: no step writes it, and a write between transactions is seen by the next
one (R51, R61, R63). -/

namespace Sys2Proof.Machine

/-! ### No step writes the caller's inputs -/

/-- Every row leaves the length and the buffer as they are, a `PFX` row too (R51). -/
theorem exec_keeps_inputs {i : Instr} {s t : State} (h : exec i s = .next t) :
    t.inLen = s.inLen ∧ t.mem = s.mem := by
  by_cases hc : i.fields.entry.cat = .PFX
  · cases (exec_pfx s hc).symm.trans h
    exact ⟨rfl, rfl⟩
  · obtain ⟨-, hlen, hmem⟩ := exec_frame hc h
    exact ⟨hlen, hmem⟩

/-- A step waits, runs a row, or takes DecodeFailure, and none of the three touches the inputs (R51). -/
theorem step_keeps_inputs {s t : State} (h : step s = .next t) : t.inLen = s.inLen ∧ t.mem = s.mem := by
  by_cases hi : s.phase = .idle
  · cases (step_idle hi).symm.trans h
    exact ⟨rfl, rfl⟩
  rw [step_running hi] at h
  split at h
  · exact exec_keeps_inputs h
  · cases h
    exact ⟨rfl, rfl⟩

/-- Settles O18: no row and no failure writes the buffer, so no byte of it changes either. -/
theorem stepLeavesTheBufferAlone : Obligations.StepLeavesTheBufferAlone := by
  intro s t h
  obtain ⟨hlen, hmem⟩ := step_keeps_inputs h
  exact ⟨hmem, hlen, fun i => congrArg (Memory.read · i) hmem⟩

/-! ### The caller's write -/

theorem callerStore_idle {k : Nat} {b : Byte} {s : State} (hi : s.phase = .idle) :
    callerStore k b s = .next { s with mem := s.mem.write k b } := if_neg (not_not.mpr hi)

/-- A relaunch of an idle block is taken and leaves the buffer as it stands (R239). -/
theorem relaunch_idle (len : Nat) {s : State} (hi : s.phase = .idle) :
    ∃ u, relaunch len s = .next u ∧ u.mem = s.mem := ⟨_, if_neg (not_not.mpr hi), rfl⟩

/-- Settles O27: by the laws of a read after a write, and because a relaunch keeps the buffer. -/
theorem storeBetweenTransactionsIsSeen : Obligations.StoreBetweenTransactionsIsSeen := by
  intro k b s hi hwf
  have hread := MemoryLaws.read_write_same hwf k b
  refine ⟨_, callerStore_idle hi, hread, fun i hik => MemoryLaws.read_write_other _ b hik,
    MemoryLaws.write_wf hwf k b, fun len => ?_⟩
  obtain ⟨u, hu, hmem⟩ := relaunch_idle len (s := { s with mem := s.mem.write k b }) hi
  exact ⟨u, hu, (congrArg (Memory.read · k) hmem).trans hread⟩

end Sys2Proof.Machine
end

section
/-! PROOFS (20_memory.md). The offsets that `DECODE` reads: they lie in the window, and two windows that agree at them
have the same verdict (R53 to R56). -/

namespace Sys2Proof.Machine

/-! ### Where the reads lie -/

/-- An addressing resolver reads at most two bytes, each inside the `rem` bytes it was given (R53, R55). -/
theorem bounds_of_mem_addrReads {x : Ctx} {buf : Nat → Byte} {o rem i : Nat} (h : i ∈ addrReads x buf o rem) :
    i < o + rem ∧ i < o + 2 := by
  unfold addrReads at h
  split at h
  · nomatch h
  split at h
  · simp only [List.mem_cons, List.not_mem_nil, or_false] at h
    omega
  · simp only [List.mem_cons, List.not_mem_nil, or_false] at h
    omega

/-- After the prefixes: the opcode byte, a second byte behind its guard, and the addressing bytes behind at most one
extra opcode byte (R55, R170, R171). -/
theorem bounds_of_mem_opcodeReads {c : Config} {buf : Nat → Byte} {n : Nat} {x : Ctx} {i : Nat}
    (hn : x.pfx.toNat < n) (h : i ∈ opcodeReads c buf n x) : i < n ∧ i < x.pfx.toNat + 4 := by
  dsimp only [opcodeReads] at h
  split at h
  · split at h
    · rw [List.mem_singleton] at h
      omega
    split at h
    case _ hfound =>
      obtain ⟨-, hextra, -⟩ := special_found hfound
      obtain hpair | haddr := List.mem_append.mp h
      · simp only [List.mem_cons, List.not_mem_nil, or_false] at hpair
        omega
      · have := bounds_of_mem_addrReads haddr
        omega
    case _ =>
      simp only [List.mem_cons, List.not_mem_nil, or_false] at h
      omega
  split at h
  · obtain rfl | haddr := List.mem_cons.mp h
    · omega
    · have := bounds_of_mem_addrReads haddr
      omega
  · rw [List.mem_singleton] at h
    omega

/-- A read is one of the prefix phase, or one that follows it where a byte is left (R55). -/
theorem mem_readOffsets_iff {c : Config} {buf : Nat → Byte} {len i : Nat} :
    i ∈ readOffsets c buf len ↔
      i < (prefixPhaseEnd c buf (min len 15)).pfx.toNat ∨
      (prefixPhaseEnd c buf (min len 15)).pfx.toNat < min len 15 ∧
        i ∈ opcodeReads c buf (min len 15) (prefixPhaseEnd c buf (min len 15)) := by
  by_cases hn : min len 15 ≤ (prefixPhaseEnd c buf (min len 15)).pfx.toNat
  · simp [readOffsets, maxLen, hn, Nat.not_lt.mpr hn]
  · simp [readOffsets, maxLen, hn, Nat.not_le.mp hn]

/-- Settles O46: a prefix read lies below the prefix count, which is in the window; the others by the guards. -/
theorem readsStayInsideTheWindow : Obligations.ReadsStayInsideTheWindow := by
  intro c buf len i hi
  have hup := (prefixPhaseEnd_run c buf (Nat.min_le_right len 15)).upper
  obtain hpfx | ⟨hn, hop⟩ := mem_readOffsets_iff.mp hi
  · omega
  · exact bounds_of_mem_opcodeReads hn hop

/-! ### The prefix phase -/

/-- The prefix loop's test reads the byte at `ctx.pfx`, and only inside the window (R190). -/
theorem prefixByte_congr {c : Config} {buf buf' : Nat → Byte} {n : Nat} {x : Ctx}
    (h : x.pfx.toNat < n → buf' x.pfx.toNat = buf x.pfx.toNat) : prefixByte c buf' n x = prefixByte c buf n x := by
  by_cases hn : x.pfx.toNat < n
  · simp only [prefixByte, h hn]
  · simp only [prefixByte, decide_eq_false hn, Bool.false_and]

/-- The loop reads from its start to the byte it stops at, as far as that is in the window (R55). -/
theorem scanPrefixes_congr {c : Config} {buf buf' : Nat → Byte} {n : Nat} (hn : n ≤ 15) {fuel : Nat} {x : Ctx}
    (hx : x.pfx.toNat ≤ n) (hfuel : n - x.pfx.toNat ≤ fuel)
    (h : ∀ i ≤ (scanPrefixes c buf n fuel x).pfx.toNat, i < n → buf' i = buf i) :
    scanPrefixes c buf' n fuel x = scanPrefixes c buf n fuel x := by
  induction fuel generalizing x with
  | zero => rfl
  | succ fuel ih =>
    have hlo := (scanPrefixes_run c buf hn (fuel + 1) x hx hfuel).lower
    have hbyte : x.pfx.toNat < n → buf' x.pfx.toNat = buf x.pfx.toNat := h _ hlo
    cases hp : prefixByte c buf n x with
    | false => simp [scanPrefixes, prefixByte_congr hbyte, hp]
    | true =>
      obtain ⟨hlt, -, -⟩ := prefixByte_iff.mp hp
      have hcount := consume_pfx_toNat (x := x) (b := buf x.pfx.toNat) (by omega)
      simp only [scanPrefixes, prefixByte_congr hbyte, hp, if_true, hbyte hlt] at h ⊢
      exact ih (by omega) (by omega) h

theorem prefixPhaseEnd_congr {c : Config} {buf buf' : Nat → Byte} {n : Nat} (hn : n ≤ 15)
    (h : ∀ i ≤ (prefixPhaseEnd c buf n).pfx.toNat, i < n → buf' i = buf i) :
    prefixPhaseEnd c buf' n = prefixPhaseEnd c buf n :=
  scanPrefixes_congr hn (Nat.zero_le _) (by simp only [maxLen]; omega) h

/-! ### The addressing size unit -/

/-- The ModRM byte is read when it is there. -/
theorem modRM_mem_addrReads (x : Ctx) (buf : Nat → Byte) {o rem : Nat} (h : 1 ≤ rem) :
    o ∈ addrReads x buf o rem := by
  unfold addrReads
  rw [if_neg (by omega)]
  split <;> exact List.mem_cons_self

/-- The SIB byte is read in the one case (R55, R146). -/
theorem sib_mem_addrReads {x : Ctx} {buf : Nat → Byte} {o rem : Nat} (hx : x.addr16 = false)
    (hmod : modField (buf o) = 0#2) (hrm : rmField (buf o) = 4#3) (h : 2 ≤ rem) :
    o + 1 ∈ addrReads x buf o rem := by
  unfold addrReads
  rw [if_neg (by omega), if_pos ⟨hx, hmod, hrm, h⟩]
  exact List.mem_cons_of_mem _ List.mem_cons_self

/-- `Addr32` depends on the ModRM byte and, in the one case, on the SIB byte (R146 to R148). -/
theorem addr32_congr_of_sib {buf buf' : Nat → Byte} {o rem : Nat} (hm : buf' o = buf o)
    (hsib : modField (buf o) = 0#2 → rmField (buf o) = 4#3 → 2 ≤ rem → buf' (o + 1) = buf (o + 1)) :
    addr32 buf' o rem = addr32 buf o rem := by
  by_cases hmod : modField (buf o) = 0#2
  · by_cases hrm : rmField (buf o) = 4#3
    · by_cases h2 : rem < 2
      · simp only [addr32, hm, if_pos h2]
      · simp only [addr32, hm, hsib hmod hrm (by omega)]
    · simp only [addr32, hm, if_neg hrm]
  · simp only [addr32, hm, if_neg hmod]

/-- Two windows that agree at what an addressing resolver reads have the same size and the same reads (R55, R56). -/
theorem addrSize_congr_of_reads {x : Ctx} {buf buf' : Nat → Byte} {o rem : Nat}
    (h : ∀ i ∈ addrReads x buf o rem, buf' i = buf i) :
    addrSize x buf' o rem = addrSize x buf o rem ∧ addrReads x buf' o rem = addrReads x buf o rem := by
  by_cases hrem : rem < 1
  · simp [addrSize, addr16, addr32, addrReads, hrem]
  have hm : buf' o = buf o := h o (modRM_mem_addrReads x buf (by omega))
  refine ⟨?_, by simp only [addrReads, hm]⟩
  cases hx : x.addr16 with
  | true => simp only [addrSize, addr16, hx, hm, if_true]
  | false =>
    have h32 := addr32_congr_of_sib hm fun hmod hrm h2 => h _ (sib_mem_addrReads hx hmod hrm h2)
    simp only [addrSize, hx, h32, Bool.false_eq_true, if_false]

/-! ### The opcode phase -/

/-- The resolver reads the opcode byte and the second byte, both behind its guard (R171). -/
theorem special_congr {c : Config} {buf buf' : Nat → Byte} {o rem : Nat} (esc : Bool) (h2 : 2 ≤ rem)
    (hop : buf' o = buf o) (hb2 : buf' (o + 1) = buf (o + 1)) :
    special c buf' o rem esc = special c buf o rem esc := by
  rw [special_pair c buf' o rem esc h2, special_pair c buf o rem esc h2, hop, hb2]

/-- Outside the ModRM categories no byte is read for the length; in them, what the addressing unit reads. -/
theorem lengthVerdict_congr {c : Config} {buf buf' : Nat → Byte} {n : Nat} {x : Ctx} {cat : Category} (imm64 : Bool)
    {extra : Nat} (h : cat.hasModRM = true →
      addrSize x buf' (x.pfx.toNat + 1 + extra) (n - (x.pfx.toNat + 1 + extra)) =
        addrSize x buf (x.pfx.toNat + 1 + extra) (n - (x.pfx.toNat + 1 + extra))) :
    lengthVerdict c buf' n x cat imm64 extra = lengthVerdict c buf n x cat imm64 extra := by
  have hmodRM (hcat : cat.hasModRM = true) (imm : Nat) :
      boundedModRM buf' n x extra imm = boundedModRM buf n x extra imm := by
    simp only [boundedModRM, ← Nat.add_assoc, h hcat]
  cases cat with
  | INV | PFX | NP | O | AI8 | AI | D | I16 | II => rfl
  | M | MR | MI8 | MRI8 | MI => exact hmodRM rfl _

theorem opcode_mem_opcodeReads (c : Config) (buf : Nat → Byte) (n : Nat) (x : Ctx) :
    x.pfx.toNat ∈ opcodeReads c buf n x := by
  dsimp only [opcodeReads]
  repeat' split
  all_goals simp

/-- Two windows that agree at what is read after the prefixes have the same verdict and the same reads there, by the
kind of the opcode's entry (R55, R199, R201). -/
theorem opcodeVerdict_congr_of_reads {c : Config} {buf buf' : Nat → Byte} {n : Nat} {x : Ctx}
    (h : ∀ i ∈ opcodeReads c buf n x, buf' i = buf i) :
    opcodeVerdict c buf' n x = opcodeVerdict c buf n x ∧ opcodeReads c buf' n x = opcodeReads c buf n x := by
  have hop := h _ (opcode_mem_opcodeReads c buf n x)
  simp only [opcodeVerdict, opcodeReads, hop] at h ⊢
  cases hmulti : (activeEntry c x (buf x.pfx.toNat)).multi with
  | true =>
    by_cases h2 : n - x.pfx.toNat < 2
    · simp [special, h2]
    simp only [hmulti, h2, if_true, if_false] at h ⊢
    have hb2 : buf' (x.pfx.toNat + 1) = buf (x.pfx.toNat + 1) := h _ (by split <;> simp)
    rw [special_congr x.esc (by omega) hop hb2]
    cases hspec : special c buf x.pfx.toNat (n - x.pfx.toNat) x.esc with
    | failed cause => exact ⟨rfl, rfl⟩
    | found cat extra =>
      rw [hspec] at h
      obtain ⟨hsize, hreads⟩ := addrSize_congr_of_reads fun i hi => h i (List.mem_append_right _ hi)
      exact ⟨lengthVerdict_congr false fun _ => hsize, congrArg ([x.pfx.toNat, x.pfx.toNat + 1] ++ ·) hreads⟩
  | false =>
    cases hcat : (activeEntry c x (buf x.pfx.toNat)).cat.hasModRM with
    | false => exact ⟨lengthVerdict_congr _ fun hmod => absurd (hcat.symm.trans hmod) Bool.false_ne_true, rfl⟩
    | true =>
      simp only [hmulti, hcat, if_true, Bool.false_eq_true, if_false] at h ⊢
      obtain ⟨hsize, hreads⟩ := addrSize_congr_of_reads fun i hi => h i (List.mem_cons_of_mem _ hi)
      exact ⟨lengthVerdict_congr _ fun _ => hsize, congrArg _ hreads⟩

/-! ### The verdict -/

/-- Settles O47: the prefix phase ends at the same context, and then the opcode phase reads the same. -/
theorem unreadBytesDoNotMatter : Obligations.UnreadBytesDoNotMatter := by
  intro c buf buf' len h
  have hpfx : prefixPhaseEnd c buf' (min len maxLen) = prefixPhaseEnd c buf (min len maxLen) := by
    refine prefixPhaseEnd_congr (Nat.min_le_right len 15) fun i hi hn => (h i (mem_readOffsets_iff.mpr ?_)).symm
    obtain hlt | rfl := Nat.lt_or_eq_of_le hi
    · exact .inl hlt
    · exact .inr ⟨hn, opcode_mem_opcodeReads ..⟩
  dsimp only [decodeVerdict, readOffsets]
  rw [hpfx]
  split
  · exact ⟨rfl, rfl⟩
  next hn =>
    obtain ⟨hverdict, hreads⟩ := opcodeVerdict_congr_of_reads fun i hi =>
      (h i (mem_readOffsets_iff.mpr (.inr ⟨Nat.not_le.mp hn, hi⟩))).symm
    exact ⟨hverdict, congrArg _ hreads⟩

/-- Settles O45: every byte that is read lies below `min(len, 15)`, and no other matters. -/
theorem windowIsClampedToFifteen : Obligations.WindowIsClampedToFifteen := by
  refine fun c buf buf' len => ⟨fun h => ?_, fun hlen => ?_⟩
  · have hagree : ∀ i ∈ readOffsets c buf len, buf i = buf' i := fun i hi => by
      obtain ⟨hin, -⟩ := readsStayInsideTheWindow c buf len i hi
      exact h i hin
    obtain ⟨hverdict, -⟩ := unreadBytesDoNotMatter c buf buf' len hagree
    exact hverdict.symm
  · simp only [decodeVerdict, maxLen, Nat.min_eq_right hlen, Nat.min_self]

end Sys2Proof.Machine
end

section
/-! PROOFS (30_encoding.md). Every row's pattern and table word read back as the instruction (R85). -/

namespace Sys2Proof.Machine

/-! ### The whole pattern -/

open Laws.RoundTrip in
/-- The per-row facts of `Laws/PerInstr.lean` put together, one for each constructor of `Instr` in its order. -/
theorem decodePattern_encode : ∀ {i : Instr}, WellFormed i → decodePattern (encode i) = some i :=
  fun {i} => Instr.rec (motive := Statement)
    op1_00_03 op1_04 op1_05 op1_06_07 op1_08_0B op1_0C op1_0D op1_0E op1_0F op1_10_13 op1_14 op1_15 op1_16_17
    op1_18_1B op1_1C op1_1D op1_1E_1F op1_20_23 op1_24 op1_25 op1_26 op1_27 op1_28_2B op1_2C op1_2D op1_2E op1_2F
    op1_30_33 op1_34 op1_35 op1_36 op1_37 op1_38_3B op1_3C op1_3D op1_3E op1_3F op1_40_47 op1_48_4F op1_50_57
    op1_58_5F op1_60_61 op1_62 op1_63 op1_64_65 op1_66 op1_67 op1_68 op1_69 op1_6A op1_6B op1_6C_6F op1_70_7F op1_80
    op1_81 op1_82 op1_83 op1_84_87 op1_88 op1_89 op1_8A_8B op1_8C_8D op1_8E op1_8F op1_90 op1_91 op1_92_93 op1_94_97
    op1_98_99 op1_9A op1_9B op1_9C_9F op1_A0_A3 op1_A4_A7 op1_A8 op1_A9 op1_AA_AB op1_AC_AF op1_B0_B7 op1_B8_BF
    op1_C0_C1 op1_C2 op1_C3 op1_C4_C5 op1_C6 op1_C7 op1_C8 op1_C9 op1_CA op1_CB op1_CC op1_CD op1_CE op1_CF op1_D0_D3
    op1_D4_D5 op1_D6 op1_D7 op1_D8_DF op1_E0_E3 op1_E4_E7 op1_E8_E9 op1_EA op1_EB op1_EC_EF op1_F0 op1_F1 op1_F2_F3
    op1_F4_F5 op1_F6 op1_F7 op1_F8_FB op1_FC_FD op1_FE op1_FF op1_F6_r0 op1_F6_r1 op1_F6_r2 op1_F6_r3 op1_F6_r4
    op1_F6_r5 op1_F6_r6 op1_F6_r7 op1_F7_r0 op1_F7_r1 op1_F7_r2 op1_F7_r3 op1_F7_r4 op1_F7_r5 op1_F7_r6 op1_F7_r7
    op2_01_inW01 op2_01_other op2_38_other op2_3A_inW3A_NI op2_3A_other op2_00 op2_01 op2_02_03 op2_04 op2_05
    op2_06_07 op2_08_09 op2_0A op2_0B op2_0C op2_0D op2_0E_0F op2_10_17 op2_18_1B op2_1C_1D op2_1E op2_1F op2_20_23
    op2_24_27 op2_28_2F op2_30_33 op2_34_35 op2_36 op2_37 op2_38 op2_39 op2_3A op2_3B op2_3C_3F op2_40_4F op2_50_5F
    op2_60_6F op2_70 op2_71 op2_72_73 op2_74_75 op2_76 op2_77 op2_78_79 op2_7A_7B op2_7C_7F op2_80_8F op2_90_9F
    op2_A0_A1 op2_A2 op2_A3 op2_A4 op2_A5 op2_A6_A7 op2_A8_A9 op2_AA op2_AB op2_AC op2_AD op2_AE op2_AF op2_B0_B7
    op2_B8 op2_B9 op2_BA op2_BB op2_BC_BF op2_C0_C1 op2_C2 op2_C3 op2_C4_C5 op2_C6 op2_C7 op2_C8_CF op2_D0_DF
    op2_E0_EF op2_F0_F7 op2_F8_FB op2_FC_FD op2_FE op2_FF op2_38_00 op2_38_01 op2_38_02 op2_38_03 op2_38_04 op2_38_05
    op2_38_06 op2_38_07 op2_38_08 op2_38_09 op2_38_0A op2_38_0B op2_3A_08 op2_3A_09 op2_3A_0A op2_3A_0B op2_3A_0C
    op2_3A_0D op2_3A_0E op2_3A_0F op2_3A_14 op2_3A_15 op2_3A_16 op2_3A_17 op2_3A_20 op2_3A_21 op2_3A_22 op2_3A_40
    op2_3A_41 op2_3A_42 op2_3A_44 op2_3A_60 op2_3A_61 op2_3A_62 op2_3A_63 op2_3A_DF i

theorem decodePattern_eq_some {bs : List Byte} {i : Instr} (h : decodePattern bs = some i) :
    ∃ esc resolving at_, patternSite bs = some (esc, resolving, at_) ∧ decode esc resolving at_ = .instr i := by
  unfold decodePattern at h
  split at h
  · nomatch h
  next esc resolving at_ hsite =>
    split at h
    next hd => cases h; exact ⟨esc, resolving, at_, hsite, hd⟩
    · nomatch h

/-- A well-formed instruction's pattern has a site, and there the decoder answers the instruction. -/
theorem decode_encodeAtCursor {i : Instr} (h : WellFormed i) :
    patternSite (encode i) = some (i.escaped, i.resolved, encodeAtCursor i) ∧
      decode i.escaped i.resolved (encodeAtCursor i) = .instr i := by
  obtain ⟨esc, resolving, at_, hsite, hd⟩ := decodePattern_eq_some (decodePattern_encode h)
  simp only [Instr.escaped, Instr.resolved, encodeAtCursor, hsite, hd, and_self]

/-- Bytes beyond the pattern are not looked at. -/
theorem decode_append {esc resolving : Bool} {bs : List Byte} {i : Instr} (h : decode esc resolving bs = .instr i)
    (rest : List Byte) : decode esc resolving (bs ++ rest) = .instr i := by
  match bs, resolving with
  | [], _ => nomatch h
  | [_], true => nomatch h
  | _ :: _ :: _, true => exact h
  | _ :: _, false => exact h

/-! ### The word -/

theorem patternValue_lt (bs : List Byte) : patternValue bs < 256 ^ bs.length := by
  induction bs with
  | nil => exact Nat.one_pos
  | cons b bs ih =>
    calc b.toNat * 256 ^ bs.length + patternValue bs
      _ < (b.toNat + 1) * 256 ^ bs.length := by rw [Nat.succ_mul]; exact Nat.add_lt_add_left ih _
      _ ≤ 256 * 256 ^ bs.length := Nat.mul_le_mul_right _ b.isLt
      _ = 256 ^ (bs.length + 1) := Nat.pow_succ'.symm

/-- Digits in front of the pattern's do not reach its bytes. -/
theorem wordBytes_add_patternValue (n : Nat) (bs : List Byte) :
    wordBytes bs.length (n * 256 ^ bs.length + patternValue bs) = bs := by
  induction bs generalizing n with
  | nil => rfl
  | cons b bs ih =>
    have hw : n * 256 ^ (bs.length + 1) + (b.toNat * 256 ^ bs.length + patternValue bs) =
        (n * 256 + b.toNat) * 256 ^ bs.length + patternValue bs := by ring
    have hdiv : ((n * 256 + b.toNat) * 256 ^ bs.length + patternValue bs) / 256 ^ bs.length = n * 256 + b.toNat := by
      rw [Nat.add_comm, Nat.add_mul_div_right _ _ (by positivity), Nat.div_eq_of_lt (patternValue_lt bs),
        Nat.zero_add]
    have hb : BitVec.ofNat 8 (n * 256 + b.toNat) = b := by bv_omega
    simp only [patternValue, List.length_cons, wordBytes, hw, hdiv, hb, ih]

/-- The bytes of a pattern's value are the pattern (R85). -/
theorem wordBytes_patternValue (bs : List Byte) : wordBytes (8 * bs.length / 8) (patternValue bs) = bs := by
  simpa using wordBytes_add_patternValue 0 bs

/-- The table word of a well-formed instruction reads back as it. -/
theorem decodeTableWord_encode {i : Instr} (h : WellFormed i) :
    decodeTableWord (8 * (encode i).length) (patternValue (encode i)) = some i := by
  rw [decodeTableWord, wordBytes_patternValue, decodePattern_encode h]

/-- Settles O28: by the per-row round trip, the bytes behind a pattern being ignored and its word being its bytes. -/
theorem decodeOfEncodeIsTheInstruction : Obligations.DecodeOfEncodeIsTheInstruction := by
  intro i rest h
  obtain ⟨-, hd⟩ := decode_encodeAtCursor h
  exact ⟨decode_append hd rest, decodeTableWord_encode h⟩

/-- Settles O32: each word is that of a well-formed instruction's pattern. -/
theorem sampleWordsDecode : Obligations.SampleWordsDecode :=
  ⟨decodeTableWord_encode (i := .op1_66) rfl, decodeTableWord_encode (i := .op1_48_4F 7#3) rfl,
    decodeTableWord_encode (i := .op1_90) rfl, decodeTableWord_encode (i := .op1_50_57 5#3) rfl,
    decodeTableWord_encode (i := .op1_8A_8B 1#1) rfl, decodeTableWord_encode (i := .op1_83) rfl,
    decodeTableWord_encode (i := .op1_06_07 0#1) rfl, decodeTableWord_encode (i := .op2_80_8F 4#4) rfl,
    decodeTableWord_encode (i := .op1_F6) rfl, decodeTableWord_encode (i := .op1_F6_r0 0#2 5#3) rfl,
    decodeTableWord_encode (i := .op2_3A_0F) rfl, decodeTableWord_encode (i := .op2_38_other 0x0C#8) rfl⟩

end Sys2Proof.Machine
end

section
/-! PROOFS (30_encoding.md, 10_state.md). A placed table word stands where its row is read (R35, R85). -/

namespace Sys2Proof.Machine

/-- What stands at a pattern's site: all but the escape, one byte in a table and two in the resolver (R70, R85). -/
theorem patternSite_eq_some {bs at_ : List Byte} {esc resolving : Bool}
    (h : patternSite bs = some (esc, resolving, at_)) :
    bs = (if esc then [0x0F#8] else []) ++ at_ ∧ at_.length = if resolving then 2 else 1 := by
  unfold patternSite at h
  split at h
  · cases h; exact ⟨rfl, rfl⟩
  · split at h
    next ha => subst ha; cases h; exact ⟨rfl, rfl⟩
    · cases h; exact ⟨rfl, rfl⟩
  · split at h
    next ha => subst ha; cases h; exact ⟨rfl, rfl⟩
    · nomatch h
  · nomatch h

/-- The block at the opcode byte of a placed pattern, the escape consumed where there is one (assumption 6). -/
def placedAtOpcode (bs : List Byte) (esc : Bool) (s : State) : State :=
  if esc then consumeByte (fun x => x.setEsc) .opcodePhase (startTransaction bs maxLen s)
  else startTransaction bs maxLen s

theorem placeWord_patternValue {bs at_ : List Byte} {esc resolving : Bool}
    (h : patternSite bs = some (esc, resolving, at_)) (s : State) :
    placeWord (8 * bs.length) (patternValue bs) s =
      if resolving then enterResolver (placedAtOpcode bs esc s) else placedAtOpcode bs esc s := by
  simp only [placeWord, wordBytes_patternValue, h, placedAtOpcode]

/-- A block that examines the opcode byte of the active table, the bytes `at_` standing at its cursor. -/
structure AtOpcode (esc : Bool) (at_ : List Byte) (t : State) : Prop where
  running : t.running
  notResolving : t.phase ≠ .lengthPhase
  table : t.ctx.esc = esc
  cursor : t.pos = t.ctx.pfx
  room : t.ctx.pfx.toNat + 2 ≤ t.window
  bytes : ∀ j, t.byte (t.ctx.pfx.toNat + j) = bytesFrom at_ j

theorem placedAtOpcode_atOpcode (esc : Bool) (at_ : List Byte) (s : State) :
    AtOpcode esc at_ (placedAtOpcode ((if esc then [0x0F#8] else []) ++ at_) esc s) where
  running := by cases esc <;> exact nofun
  notResolving := by cases esc <;> exact nofun
  table := by cases esc <;> rfl
  cursor := by cases esc <;> rfl
  room := by cases esc; exacts [(by decide : 0 + 2 ≤ 15), (by decide : 1 + 2 ≤ 15)]
  bytes j := by
    cases esc
    · exact (MemoryLaws.read_ofBytes _ _).trans (congrArg (bytesFrom at_) (Nat.zero_add j))
    · exact (MemoryLaws.read_ofBytes _ _).trans (congrArg (bytesFrom (_ :: at_)) (Nat.add_comm 1 j))

/-- The next step looks up the byte in the active table (R193). -/
theorem AtOpcode.decodes_byte {esc : Bool} {b : Byte} {t : State} (h : AtOpcode esc [b] t) :
    t.running ∧ t.decodeAtCursor = decode esc false [b] := by
  obtain ⟨hrun, hl, htable, hcursor, hroom, hbytes⟩ := h
  have hb : t.byte t.ctx.pfx.toNat = b := hbytes 0
  refine ⟨hrun, ?_⟩
  rw [decodeAtCursor_entry hl (by rw [hcursor]; omega), htable, hcursor, hb]
  rfl

/-- After the hand-over the next step resolves the pair (R199). -/
theorem AtOpcode.decodes_pair {esc : Bool} {op b2 : Byte} {t : State} (h : AtOpcode esc [op, b2] t) :
    (enterResolver t).running ∧ (enterResolver t).decodeAtCursor = decode esc true [op, b2] := by
  obtain ⟨-, -, htable, hcursor, hroom, hbytes⟩ := h
  have hop : t.byte t.ctx.pfx.toNat = op := hbytes 0
  have hb2 : t.byte (t.ctx.pfx.toNat + 1) = b2 := hbytes 1
  have hin : t.pos.toNat + 1 < t.window := by rw [hcursor]; omega
  have hcur : (State.driveUnspecified { t with phase := .lengthPhase }).decodeAtCursor =
      decode t.ctx.esc true [t.byte t.pos.toNat, t.byte (t.pos.toNat + 1)] := decodeAtCursor_pair rfl hin
  rw [enterResolver_ready hroom, hcur, htable, hcursor, hop, hb2]
  exact ⟨nofun, rfl⟩

/-- A placed pattern is decoded at its site. -/
theorem decodeAtCursor_placeWord {bs at_ : List Byte} {esc resolving : Bool}
    (h : patternSite bs = some (esc, resolving, at_)) (s : State) :
    (placeWord (8 * bs.length) (patternValue bs) s).running ∧
      (placeWord (8 * bs.length) (patternValue bs) s).decodeAtCursor = decode esc resolving at_ := by
  obtain ⟨hbs, hlen⟩ := patternSite_eq_some h
  have hat := placedAtOpcode_atOpcode esc at_ s
  rw [← hbs] at hat
  rw [placeWord_patternValue h]
  cases resolving with
  | false =>
    obtain ⟨b, rfl⟩ := List.length_eq_one_iff.mp hlen
    exact hat.decodes_byte
  | true =>
    obtain ⟨op, b2, rfl⟩ := List.length_eq_two.mp hlen
    exact hat.decodes_pair

/-- Settles O5: the placed pattern is decoded at its site, and there the decoder answers the instruction. -/
theorem placedWordIsTheNextInstruction : Obligations.PlacedWordIsTheNextInstruction := by
  intro i s h
  obtain ⟨hsite, hd⟩ := decode_encodeAtCursor h
  obtain ⟨hrun, hcur⟩ := decodeAtCursor_placeWord hsite s
  rw [State.withFetchWord, step_running hrun, hcur, hd]

end Sys2Proof.Machine
end

section
/-! PROOFS (30_encoding.md, 40_classification_tables.md, 42_special_case_resolver.md). What the decoder answers by the
tables' rows and by the resolver's, and the fields of a byte (R71, R72, R85, R124, R125, R172 to R177). -/

namespace Sys2Proof.Machine

/-! ### One row for every index -/

theorem t1Rows_unique (b : Byte) : (t1Rows.filter fun r => patternValue [b] &&& r.mask == r.pat).length = 1 := by
  revert b; decide +kernel

theorem t2Rows_unique (b : Byte) :
    (t2Rows.filter fun r => patternValue [0x0F#8, b] &&& r.mask == r.pat).length = 1 := by
  revert b; decide +kernel

/-- Settles O30: the rows match one at a time, and the row found is the table's entry. -/
theorem rowsPartitionTheTables : Obligations.RowsPartitionTheTables := by
  intro b
  obtain ⟨i1, hd1, hf1, -⟩ := decodeEntry_row false b
  obtain ⟨i2, hd2, hf2, -⟩ := decodeEntry_row true b
  exact ⟨t1Rows_unique b, t2Rows_unique b, ⟨i1, hd1, hf1⟩, ⟨i2, hd2, hf2⟩⟩

/-! ### What the resolver answers -/

theorem findRow_eq_some {rows : List Row} {v : Nat} {i : Instr} (h : findRow rows v = some i) :
    ∃ r ∈ rows, v &&& r.mask = r.pat ∧ r.build v = i := by
  induction rows with
  | nil => nomatch h
  | cons r rows ih =>
    unfold findRow at h
    split at h
    next hr => exact ⟨r, List.mem_cons_self, hr, Option.some.inj h⟩
    · obtain ⟨r', hmem, hr'⟩ := ih h
      exact ⟨r', List.mem_cons_of_mem _ hmem, hr'⟩

/-- The `reg`-dependent rows fix the whole opcode byte, to `F6` or `F7` (R175, R176). -/
theorem regRows_opcode :
    ∀ r ∈ regRows, r.mask >>> 8 = 0xFF ∧ (r.pat >>> 8 = 0xF6 ∨ r.pat >>> 8 = 0xF7) := by decide

theorem patternValue_pair_opcode (op b2 : Byte) : patternValue [op, b2] >>> 8 &&& 0xFF = op.toNat := by
  have h2 := b2.isLt
  have hv : patternValue [op, b2] >>> 8 = op.toNat := by
    simp only [patternValue, List.length_cons, List.length_nil, Nat.shiftRight_eq_div_pow]
    omega
  rw [hv]
  exact (Nat.and_two_pow_sub_one_eq_mod op.toNat 8).trans (Nat.mod_eq_of_lt op.isLt)

/-- The unescaped opcodes with an arm (R175 to R177). -/
theorem decodeUnescaped_opcode {op b2 : Byte} {i : Instr} (h : decodeUnescaped op b2 = .instr i) :
    op = 0xF6#8 ∨ op = 0xF7#8 := by
  unfold decodeUnescaped at h
  split at h
  next j hrow =>
    obtain ⟨r, hmem, hpat, -⟩ := findRow_eq_some hrow
    obtain ⟨hmask, hop⟩ := regRows_opcode r hmem
    have hshift : op.toNat = r.pat >>> 8 := by
      rw [← hpat, Nat.shiftRight_and_distrib, hmask, patternValue_pair_opcode]
    exact hop.imp (fun h => BitVec.eq_of_toNat_eq (hshift.trans h)) fun h => BitVec.eq_of_toNat_eq (hshift.trans h)
  · nomatch h

/-- The escaped opcodes with an arm (R172 to R174, R177). -/
theorem decodeEscaped_opcode {op b2 : Byte} {i : Instr} (h : decodeEscaped op b2 = .instr i) :
    op = 0x01#8 ∨ op = 0x38#8 ∨ op = 0x3A#8 := by
  by_contra hno
  obtain ⟨h01, h38, h3A⟩ : op ≠ 0x01#8 ∧ op ≠ 0x38#8 ∧ op ≠ 0x3A#8 := by simpa only [not_or] using hno
  rw [decodeEscaped, if_neg h01, if_neg h38, if_neg h3A] at h
  nomatch h

/-- The resolver answers an instruction for a `multi` opcode only (R177, R178). -/
theorem decode_pair_multi {esc : Bool} {op b2 : Byte} {i : Instr} (h : decode esc true [op, b2] = .instr i) :
    (if esc then machineConfig.t2 op else machineConfig.t1 op).multi = true := by
  cases esc with
  | false => obtain rfl | rfl := decodeUnescaped_opcode h <;> decide
  | true => obtain rfl | rfl | rfl := decodeEscaped_opcode h <;> decide

/-- Settles O29: a byte's row, or a pair's, is well-formed and encodes to what was read. -/
theorem encodeOfDecodeIsTheBytes : Obligations.EncodeOfDecodeIsTheBytes := by
  intro esc resolving bs i h
  match bs, resolving with
  | [], _ => nomatch h
  | [_], true => nomatch h
  | b :: rest, false =>
    obtain ⟨j, hj, -, henc, hesc, hres, hwf⟩ := decodeEntry_row esc b
    cases hj.symm.trans h
    exact ⟨hwf, hesc, hres, rest, by rw [henc]; rfl⟩
  | op :: b2 :: rest, true =>
    obtain ⟨j, hj, -, henc, hesc, hres, hwf⟩ := decode_pair_row (decode_pair_multi h) b2
    cases hj.symm.trans h
    exact ⟨hwf, hesc, hres, rest, by rw [henc]; rfl⟩

/-! ### The fields of a byte -/

/-- A byte by its bits 7 to 6, 5 to 3 and 2 to 0. -/
theorem toNat_eq_bitGroups (b : Byte) :
    b.toNat = 64 * (b.extractLsb' 6 2).toNat + 8 * (b.extractLsb' 3 3).toNat + (b.extractLsb' 0 3).toNat := by
  simp only [BitVec.extractLsb'_toNat, Nat.shiftRight_eq_div_pow]
  omega

/-- Settles O35: the fields of both bytes are the same three groups of bits. -/
theorem byteFieldsAreTheNamedBits : Obligations.ByteFieldsAreTheNamedBits :=
  fun b => ⟨toNat_eq_bitGroups b, toNat_eq_bitGroups b⟩

end Sys2Proof.Machine
end

section
/-! PROOFS (40_classification_tables.md). The landmark bytes of the default tables (R102 to R109, R114 to R120, R123),
a lemma per table and kind. The grids of R124 and R125 are data without further structure, so the kernel reads all 256
cells where a lemma asks about every byte. -/

namespace Sys2Proof.Machine

/-- R102 to R109: the escape, the overrides, the REX forms, lock, repne and rep. -/
theorem t1_pfx_iff (b : Byte) :
    (machineConfig.t1 b).cat = .PFX ↔
      b ∈ [0x0F#8, 0x26#8, 0x2E#8, 0x36#8, 0x3E#8, 0x66#8, 0x67#8, 0x64#8, 0x65#8, 0xF0#8, 0xF2#8, 0xF3#8] ∨
        (0x40#8 ≤ b ∧ b ≤ 0x4F#8) := by
  revert b; decide +kernel

/-- R114, R115. -/
theorem t1_multi_iff (b : Byte) : (machineConfig.t1 b).multi = true ↔ b = 0xF6#8 ∨ b = 0xF7#8 :=
  ⟨t1_multi_cases b, by rintro (rfl | rfl) <;> rfl⟩

/-- R117. -/
theorem t1_imm64_iff (b : Byte) : (machineConfig.t1 b).imm64 = true ↔ 0xB8#8 ≤ b ∧ b ≤ 0xBF#8 := by
  revert b; decide +kernel

/-- R116: the returns with a 16-bit operand. -/
theorem t1_i16_iff (b : Byte) : (machineConfig.t1 b).cat = .I16 ↔ b = 0xC2#8 ∨ b = 0xCA#8 := by
  revert b; decide +kernel

/-- R116: `enter`. -/
theorem t1_ii_iff (b : Byte) : (machineConfig.t1 b).cat = .II ↔ b = 0xC8#8 := by
  revert b; decide +kernel

/-- R117: no entry of `T2` takes a 64-bit immediate. -/
theorem t2_imm64 (b : Byte) : (machineConfig.t2 b).imm64 = false := by
  revert b; decide +kernel

/-- R118 to R120. -/
theorem t2_multi_iff (b : Byte) :
    (machineConfig.t2 b).multi = true ↔ b = 0x01#8 ∨ b = 0x38#8 ∨ b = 0x3A#8 :=
  ⟨t2_multi_cases b, by rintro (rfl | rfl | rfl) <;> rfl⟩

/-- Settles O42, a landmark at a time. -/
theorem landmarksOfTheDefaultTables : Obligations.LandmarksOfTheDefaultTables :=
  fun b => ⟨t1_pfx_iff b, t1_multi_iff b, t1_imm64_iff b, t1_i16_iff b, t1_ii_iff b, t2_no_pfx b, t2_imm64 b,
    t2_multi_iff b⟩

end Sys2Proof.Machine
end

section
/-! PROOFS (41_addressing_size_unit.md). Each resolver is the size that the ModRM and SIB bytes name (`addr32Size`,
`addr16Size`) behind the window test; the three statements are read off those sizes. -/

namespace Sys2Proof.Machine

/-! ### The window test -/

/-- The window test as the obligations write it. -/
theorem fits_eq_ite (r rem : Nat) : fits r rem = if r ≤ rem then r else 0 := by
  unfold fits; split <;> split <;> omega

theorem fits_of_le {r rem : Nat} (h : r ≤ rem) : fits r rem = r := if_neg (by omega)

theorem fits_eq_zero_or_self (r rem : Nat) : fits r rem = 0 ∨ fits r rem = r := ite_eq_or_eq _ _ _

/-- A guard before a read (R141, R146, R155) that asks for no more bytes than the size has changes no answer. -/
theorem guard_fits {k r : Nat} (h : k ≤ r) (rem : Nat) : (if rem < k then 0 else fits r rem) = fits r rem := by
  split
  · rw [fits_short (by omega)]
  · rfl

/-- A window test answers one of the sizes it is given, or 0. -/
theorem fits_mem_cons {r : Nat} {l : List Nat} (h : r ∈ l) (rem : Nat) : fits r rem ∈ 0 :: l := by
  rcases fits_eq_zero_or_self r rem with h0 | hr
  · rw [h0]; exact List.mem_cons_self
  · rw [hr]; exact List.mem_cons_of_mem 0 h

/-- A size of at least 1 that lies in the window is not answered by 0. -/
theorem fits_ne_zero {r k rem : Nat} (hr : 1 ≤ r ∧ r ≤ k) (hk : k ≤ rem) : fits r rem ≠ 0 := by
  rw [fits_of_le (hr.2.trans hk)]; omega

/-! ### The size named by the ModRM and SIB bytes -/

theorem two_le_sibSize (s : Byte) : 2 ≤ sibSize s := by unfold sibSize; split <;> omega

/-- The size of `Addr32` for the ModRM byte `m` and the SIB byte `s`, before the window test (R142 to R150). -/
def addr32Size (m s : Byte) : Nat :=
  if modField m = 3#2 then 1
  else if modField m = 0#2 then if rmField m = 4#3 then sibSize s else if rmField m = 5#3 then 5 else 1
  else if modField m = 1#2 then if rmField m = 4#3 then 3 else 2
  else if rmField m = 4#3 then 6 else 5

/-- The size of `Addr16` for the ModRM byte `m`, before the window test (R156 to R160). -/
def addr16Size (m : Byte) : Nat :=
  if modField m = 3#2 then 1
  else if modField m = 0#2 then if rmField m = 6#3 then 3 else 1
  else if modField m = 1#2 then 2
  else 3

theorem addr32Size_mem (m s : Byte) : addr32Size m s ∈ [1, 2, 3, 5, 6] := by
  unfold addr32Size sibSize
  repeat' split
  all_goals decide

theorem addr16Size_mem (m : Byte) : addr16Size m ∈ [1, 2, 3] := by
  unfold addr16Size
  repeat' split
  all_goals decide

theorem addr32Size_bounds (m s : Byte) : 1 ≤ addr32Size m s ∧ addr32Size m s ≤ 6 :=
  (by decide : ∀ r ∈ [1, 2, 3, 5, 6], 1 ≤ r ∧ r ≤ 6) _ (addr32Size_mem m s)

theorem addr16Size_bounds (m : Byte) : 1 ≤ addr16Size m ∧ addr16Size m ≤ 3 :=
  (by decide : ∀ r ∈ [1, 2, 3], 1 ≤ r ∧ r ≤ 3) _ (addr16Size_mem m)

/-- `Addr32` is its size behind the window test: both guards before the reads are implied by it. -/
theorem addr32_eq_fits (buf : Nat → Byte) (o rem : Nat) :
    addr32 buf o rem = fits (addr32Size (buf o) (buf (o + 1))) rem := by
  calc addr32 buf o rem
      = if rem < 1 then 0 else fits (addr32Size (buf o) (buf (o + 1))) rem := by
        simp only [addr32, addr32Size, guard_fits (two_le_sibSize _), apply_ite (fits · rem)]
    _ = fits (addr32Size (buf o) (buf (o + 1))) rem := guard_fits (addr32Size_bounds _ _).1 rem

/-- `Addr16` is its size behind the window test. -/
theorem addr16_eq_fits (buf : Nat → Byte) (o rem : Nat) : addr16 buf o rem = fits (addr16Size (buf o)) rem := by
  calc addr16 buf o rem
      = if rem < 1 then 0 else fits (addr16Size (buf o)) rem := by
        simp only [addr16, addr16Size, apply_ite (fits · rem)]
    _ = fits (addr16Size (buf o)) rem := guard_fits (addr16Size_bounds _).1 rem

/-! ### The sizes by `mod` -/

/-- R142. -/
theorem addr32Size_mod3 {m : Byte} (h : modField m = 3#2) (s : Byte) : addr32Size m s = 1 := if_pos h

/-- R143 to R148. -/
theorem addr32Size_mod0 {m : Byte} (h : modField m = 0#2) (s : Byte) :
    addr32Size m s = if rmField m = 4#3 then sibSize s else if rmField m = 5#3 then 5 else 1 := by
  simp [addr32Size, h]

/-- R149. -/
theorem addr32Size_mod1 {m : Byte} (h : modField m = 1#2) (s : Byte) :
    addr32Size m s = if rmField m = 4#3 then 3 else 2 := by
  simp [addr32Size, h]

/-- R150. -/
theorem addr32Size_mod2 {m : Byte} (h : modField m = 2#2) (s : Byte) :
    addr32Size m s = if rmField m = 4#3 then 6 else 5 := by
  simp [addr32Size, h]

/-- R157, R158. -/
theorem addr16Size_mod0 {m : Byte} (h : modField m = 0#2) : addr16Size m = if rmField m = 6#3 then 3 else 1 := by
  simp [addr16Size, h]

/-! ### The obligations -/

/-- Settles O33: every clause names the size of its ModRM and SIB bytes. -/
theorem addr32CaseByCase : Obligations.Addr32CaseByCase := by
  intro buf o rem
  simp only [addr32_eq_fits, ← fits_eq_ite]
  refine ⟨fun h => ?mod3, fun h h4 h5 => ?plain, fun h h5 => ?disp32, fun h h4 hb hi => ?sibDisp32,
    fun h h4 hs => ?sib, fun h h4 => ?disp8, fun h h4 => ?sibDisp8, fun h h4 => ?mod2, fun h h4 => ?sibMod2⟩
  case mod3 => rw [addr32Size_mod3 h]
  case plain => rw [addr32Size_mod0 h, if_neg h4, if_neg h5]
  case disp32 => rw [addr32Size_mod0 h, if_neg (by rw [h5]; decide), if_pos h5]
  case sibDisp32 => rw [addr32Size_mod0 h, if_pos h4, sibSize, if_pos ⟨hb, hi⟩]
  case sib => rw [addr32Size_mod0 h, if_pos h4, sibSize, if_neg hs]
  case disp8 => rw [addr32Size_mod1 h, if_neg h4]
  case sibDisp8 => rw [addr32Size_mod1 h, if_pos h4]
  case mod2 => rw [addr32Size_mod2 h, if_neg h4]
  case sibMod2 => rw [addr32Size_mod2 h, if_pos h4]

/-- Settles O34, likewise. -/
theorem addr16CaseByCase : Obligations.Addr16CaseByCase := by
  intro buf o rem
  simp only [addr16_eq_fits, ← fits_eq_ite]
  refine ⟨fun h => ?mod3, fun h h6 => ?plain, fun h h6 => ?disp16, fun h => ?mod1, fun h => ?mod2⟩
  case mod3 => rw [addr16Size, if_pos h]
  case plain => rw [addr16Size_mod0 h, if_neg h6]
  case disp16 => rw [addr16Size_mod0 h, if_pos h6]
  case mod1 => simp [addr16Size, h]
  case mod2 => simp [addr16Size, h]

/-- Settles O36: the sizes are 1, 2, 3, 5 and 6 (1 to 3), and the window test adds the 0 of missing bytes only. -/
theorem addressingReturnsAreBounded : Obligations.AddressingReturnsAreBounded := by
  intro buf o rem
  refine ⟨?_, addr32_le _ _ _, fun h => ?_, ?_, addr16_le _ _ _, fun h => ?_⟩
  · rw [addr32_eq_fits]; exact fits_mem_cons (addr32Size_mem _ _) rem
  · rw [addr32_eq_fits]; exact fits_ne_zero (addr32Size_bounds _ _) h
  · rw [addr16_eq_fits]; exact fits_mem_cons (addr16Size_mem _) rem
  · rw [addr16_eq_fits]; exact fits_ne_zero (addr16Size_bounds _) h

end Sys2Proof.Machine
end

section
/-! PROOFS (42_special_case_resolver.md). The two sides of the special-case resolver: the guard in front of it (R171,
R199) and the rows that stand for its answers (R172 to R178). -/

namespace Sys2Proof.Machine

/-- Settles O17: a multi row is `enterResolver`, whose guard is the split of the statement. -/
theorem multiRowHandsOverOrFails : Obligations.MultiRowHandsOverOrFails := by
  intro i s hm
  rw [exec_multi s hm]
  constructor
  · intro h
    exact ⟨_, congrArg _ (enterResolver_ready h), rfl, rfl, rfl, rfl, rfl⟩
  · intro h
    exact congrArg _ (enterResolver_short (by omega))

/-- With the second byte in the window the resolver fails for one cause only (R172 to R174, R177). -/
theorem special_failed_cause {c : Config} {buf : Nat → Byte} {o rem : Nat} {esc : Bool} {cause : Cause}
    (h2 : 2 ≤ rem) (h : special c buf o rem esc = .failed cause) : cause = .specialUnlisted := by
  rw [special, if_neg (Nat.not_lt.mpr h2)] at h
  dsimp only at h
  repeat' split at h
  all_goals cases h
  all_goals rfl

/-- Settles O31: the pair's row has the fields that the resolver's answer calls for. -/
theorem resolverRowsAgreeWithSpecial : Obligations.ResolverRowsAgreeWithSpecial := by
  intro esc op b2 hm
  obtain ⟨i, hi, hf, -⟩ := decode_pair_row hm b2
  have hwin : special machineConfig (pair op b2) 0 2 esc = special machineConfig (bytesFrom [op, b2]) 0 2 esc :=
    (special_pair machineConfig (bytesFrom [op, b2]) 0 2 esc (Nat.le_refl 2)).symm
  rw [hwin] at hf
  refine ⟨i, hi, ?_⟩
  cases h : special machineConfig (bytesFrom [op, b2]) 0 2 esc with
  | found cat extra => rwa [h] at hf
  | failed cause =>
    rw [h] at hf
    exact ⟨by rw [hf]; rfl, special_failed_cause (Nat.le_refl 2) h⟩

end Sys2Proof.Machine
end

section
/-! PROOFS (43_main_decode.md). The rows of the opcode table, a category at a time (R191 to R219): what a row does is
`exec_pfx` or `exec_final`, and what a length does is `sizePlain_cases` or `sizeModRM_cases`. -/

namespace Sys2Proof.Machine

/-! ### Prefix rows -/

/-- A `PFX` row has one pattern byte (R85, R194 to R198). -/
theorem encode_pfx {i : Instr} (hc : i.fields.entry.cat = .PFX) : encode i = [prefixRowByte i] := by
  cases i <;> first
    | rfl
    | nomatch hc

/-- Settles O7: the row consumes its byte, and `Ctx.consume` is known flag by flag. -/
theorem prefixRowConsumesItsByte : Obligations.PrefixRowConsumesItsByte := by
  intro i s hc
  exact ⟨prefixRowByte i, _, encode_pfx hc, exec_pfx s hc, Ctx.consume_pfx .., (Ctx.consume_pfx ..).symm,
    Ctx.consume_esc .., Ctx.consume_op16 .., Ctx.consume_addr16 .., Ctx.consume_rexw .., rfl, rfl, rfl⟩

/-! ### What a row of a category runs -/

/-- Only the ModRM categories have `multi` rows and rows with an extra opcode byte (R172 to R176, R200). -/
theorem fields_of_noModRM {i : Instr} (h : i.fields.entry.cat.hasModRM = false) :
    i.fields.entry.multi = false ∧ i.fields.extra = 0 := by
  cases i <;> first
    | exact ⟨rfl, rfl⟩
    | nomatch h

/-- A final row runs the arm of its category (R201). -/
theorem exec_category {i : Instr} (s : State) {cat : Category} (hc : i.fields.entry.cat = cat)
    (hm : i.fields.entry.multi = false) (hp : cat ≠ .PFX) :
    exec i s = .next (resolveLength cat i.fields.entry.imm64 i.fields.extra s) := by
  subst hc
  exact exec_final s hm hp

/-- A row without a ModRM byte is final. -/
theorem exec_noModRM {i : Instr} (s : State) {cat : Category} (hc : i.fields.entry.cat = cat)
    (hcat : cat.hasModRM = false) (hp : cat ≠ .PFX) :
    exec i s = .next (resolveLength cat i.fields.entry.imm64 i.fields.extra s) := by
  obtain ⟨hm, -⟩ := fields_of_noModRM (hc ▸ hcat)
  exact exec_category s hc hm hp

/-! ### Failures -/

/-- Settles O16: the arm of `INV` is DecodeFailure (R205). -/
theorem invalidRowTakesDecodeFailure : Obligations.InvalidRowTakesDecodeFailure := by
  intro i s hc
  exact ⟨_, exec_noModRM s hc rfl (by decide), rfl, ⟨rfl, rfl, rfl⟩, rfl, rfl, rfl⟩

/-- Settles O4: no byte is decoded behind the window (R192). -/
theorem exhaustedWindowIsInvalid : Obligations.ExhaustedWindowIsInvalid :=
  fun _ hr h => step_exhausted hr h

/-! ### The result on the ports -/

theorem bounded_of_le {n L : Nat} (h : L ≤ n) : bounded n L = .length L := if_neg (Nat.not_lt.mpr h)

theorem bounded_of_lt {n L : Nat} (h : n < L) : bounded n L = .failure .truncated := if_pos h

/-- The final check on the ports is the final check of the pseudocode: a length in the window fits in 4 bits (R219). -/
theorem returnLength_result (L : Nat) (s : State) : (returnLength L s).result = (bounded s.window L).result := by
  by_cases h : L ≤ s.window
  · have h15 := window_le_fifteen s
    have hto : (BitVec.ofNat 4 L).toNat = L := by rw [BitVec.toNat_ofNat]; omega
    rw [returnLength_valid h, bounded_of_le h]
    exact congrArg Result.valid hto
  · rw [returnLength_truncated (by omega), bounded_of_lt (by omega)]
    rfl

theorem sizePlain_result (bytes extra : Nat) (s : State) :
    (sizePlain bytes extra s).result = (bounded s.window (s.ctx.pfx.toNat + bytes + extra)).result :=
  returnLength_result ..

/-! ### Rows without a ModRM byte -/

/-- What a row with `bytes` opcode and immediate bytes shows. -/
theorem exec_sizePlain {i : Instr} {s : State} {bytes : Nat}
    (he : exec i s = .next (sizePlain bytes i.fields.extra s)) :
    let L := s.ctx.pfx.toNat + bytes + i.fields.extra
    ∃ t, exec i s = .next t ∧ t.phase = .idle ∧ sameInputsAndContext s t ∧
      (L ≤ s.window → t.result = .valid L) ∧ (s.window < L → t.result = .invalid ∧ t.outLen = 0) := by
  intro L
  obtain ⟨hphase, hframe⟩ := sizePlain_frame bytes i.fields.extra s
  obtain ⟨-, hinvalid⟩ := sizePlain_cases bytes i.fields.extra s
  refine ⟨_, he, hphase, hframe, fun h => ?_, fun h => ?_⟩
  · rw [sizePlain_result, bounded_of_le h]; rfl
  · rw [hinvalid h]; exact ⟨rfl, rfl⟩

/-- Settles O8: an `NP` row has no extra byte, so its length ends at the opcode byte. -/
theorem noOperandRowGivesItsLength : Obligations.NoOperandRowGivesItsLength := by
  intro i s hc
  obtain ⟨-, hextra⟩ := fields_of_noModRM (i := i) (by rw [hc]; rfl)
  obtain ⟨t, he, hphase, hframe, hvalid, hinvalid⟩ :=
    exec_sizePlain (bytes := 1) (exec_noModRM s hc rfl (by decide))
  exact ⟨hextra, t, he, hphase, hframe, hvalid, hinvalid, fun h => hvalid (by omega)⟩

/-- Settles O12: the three arms count 2, 3 and 4 bytes. -/
theorem fixedImmediateRowGivesItsLength : Obligations.FixedImmediateRowGivesItsLength := by
  rintro i s k (⟨hc, rfl⟩ | ⟨hc, rfl⟩ | ⟨hc, rfl⟩)
  · exact exec_sizePlain (exec_noModRM s hc rfl (by decide))
  · exact exec_sizePlain (exec_noModRM s hc rfl (by decide))
  · exact exec_sizePlain (exec_noModRM s hc rfl (by decide))

/-- The next states of a row with the opcode byte and `imm` immediate bytes, the selected width among them. -/
theorem exec_sizePlain_imm {i : Instr} {s : State} {imm : Nat}
    (he : exec i s = .next (sizePlain (1 + imm) i.fields.extra s)) :
    let L := s.ctx.pfx.toNat + 1 + imm + i.fields.extra
    let p := BitVec.ofNat 4 (s.ctx.pfx.toNat + (1 + i.fields.extra))
    (L ≤ s.window → exec i s = .next { s with
      phase := .idle, pos := p, outValid := true, outLen := BitVec.ofNat 4 L }) ∧
    (s.window < L → exec i s = .next { s with phase := .idle, pos := p, outValid := false, outLen := 0 }) := by
  obtain ⟨hvalid, hinvalid⟩ := sizePlain_cases (1 + imm) i.fields.extra s
  rw [← Nat.add_assoc] at hvalid hinvalid
  exact ⟨fun h => he.trans (congrArg _ (hvalid h)), fun h => he.trans (congrArg _ (hinvalid h))⟩

/-- Settles O13: the arm of `AI` counts the selected width (R203, R214). -/
theorem selectedImmediateRowGivesItsLength : Obligations.SelectedImmediateRowGivesItsLength :=
  fun _ s hc => exec_sizePlain_imm (exec_noModRM s hc rfl (by decide))

/-- Settles O37: the conditions of the rule, flag by flag (R203). -/
theorem immediateWidthTable : Obligations.ImmediateWidthTable := by
  intro c x imm64
  refine ⟨fun h16 hw => ?neither, fun h16 hw => ?op16, fun h16 hw => ?rexw, fun h16 hw hc => ?op16Wins,
    fun h16 hw hc => ?rexwWins⟩
  all_goals simp [immw, *]

/-- Without `imm64` the machine's selected width is 2 under `op16`, whatever `rexw`, and 4 otherwise (D10, D11). -/
theorem immw_displacement (x : Ctx) : immw machineConfig x false = if x.op16 then 2 else 4 := by
  obtain ⟨hneither, hop16, hrexw, hboth, -⟩ := immediateWidthTable machineConfig x false
  cases h16 : x.op16 <;> cases hw : x.rexw
  · exact hneither h16 hw
  · exact hrexw h16 hw
  · exact hop16 h16 hw
  · exact hboth h16 hw rfl

/-- Settles O14: the displacement is the selected width without `imm64` (R215). -/
theorem branchRowGivesItsLength : Obligations.BranchRowGivesItsLength := by
  intro i s hc
  rw [← immw_displacement]
  exact exec_sizePlain_imm (exec_noModRM s hc rfl (by decide))

/-! ### Rows with a ModRM byte -/

/-- The next states of a ModRM row with `imm` immediate bytes, by the answer `a` of the addressing resolver. -/
theorem exec_sizeModRM {i : Instr} {s : State} {imm : Nat} (he : exec i s = .next (sizeModRM i.fields.extra imm s)) :
    let o := s.ctx.pfx.toNat + (1 + i.fields.extra)
    let a := if s.ctx.addr16 then addr16 s.byte o (s.window - o) else addr32 s.byte o (s.window - o)
    (a ≠ 0 → o + a + imm ≤ s.window → exec i s = .next { s with
      phase := .idle, pos := BitVec.ofNat 4 o, outValid := true, outLen := BitVec.ofNat 4 (o + a + imm) }) ∧
    (a = 0 ∨ s.window < o + a + imm → exec i s = .next { s with
      phase := .idle, pos := BitVec.ofNat 4 o, outValid := false, outLen := 0 }) := by
  obtain ⟨hvalid, hinvalid⟩ := sizeModRM_cases i.fields.extra imm s
  exact ⟨fun ha h => he.trans (congrArg _ (hvalid ha h)), fun h => he.trans (congrArg _ (hinvalid h))⟩

/-- Without an immediate the addressing bytes end the instruction, and they are in the window (R151, R161). -/
theorem exec_sizeModRM_noImm {i : Instr} {s : State} (he : exec i s = .next (sizeModRM i.fields.extra 0 s)) :
    let o := s.ctx.pfx.toNat + (1 + i.fields.extra)
    let a := if s.ctx.addr16 then addr16 s.byte o (s.window - o) else addr32 s.byte o (s.window - o)
    (a ≠ 0 → exec i s = .next { s with
      phase := .idle, pos := BitVec.ofNat 4 o, outValid := true, outLen := BitVec.ofNat 4 (o + a) }) ∧
    (a = 0 → exec i s = .next { s with
      phase := .idle, pos := BitVec.ofNat 4 o, outValid := false, outLen := 0 }) := by
  intro o a
  have hle : a ≤ s.window - o := addrSize_le s.ctx s.byte o (s.window - o)
  obtain ⟨hvalid, hinvalid⟩ := exec_sizeModRM he
  refine ⟨fun ha => hvalid ha ?_, fun ha => hinvalid (.inl ha)⟩
  change o + a ≤ s.window
  omega

/-- Settles O9 (R208). -/
theorem modRmRowGivesItsLength : Obligations.ModRmRowGivesItsLength :=
  fun _ s hc hm => exec_sizeModRM_noImm (exec_category s hc hm (by decide))

/-- Settles O10: the immediate is one byte (R210). -/
theorem modRmImm8RowGivesItsLength : Obligations.ModRmImm8RowGivesItsLength :=
  fun _ s hc hm => exec_sizeModRM (exec_category s hc hm (by decide))

/-- Settles O11: the immediate has the selected width (R212). -/
theorem modRmImmwRowGivesItsLength : Obligations.ModRmImmwRowGivesItsLength :=
  fun _ s hc hm => exec_sizeModRM (exec_category s hc hm (by decide))

/-- Settles O15: the arms of `O`, `MR` and `MRI8` are those of `NP`, `M` and `MI8` (D9). -/
theorem categoriesOfTheSameShapeAgree : Obligations.CategoriesOfTheSameShapeAgree := by
  intro i s hm
  refine ⟨fun hc => ?O, fun hc => ?MR, fun hc => ?MRI8⟩
  case O =>
    simpa only [Nat.add_zero, Nat.add_assoc] using
      exec_sizePlain_imm (imm := 0) (exec_noModRM s hc rfl (by decide))
  case MR => exact exec_sizeModRM_noImm (exec_category s hc hm (by decide))
  case MRI8 => exact exec_sizeModRM (exec_category s hc hm (by decide))

end Sys2Proof.Machine
end

section
/-! PROOFS (43_main_decode.md). The prefix phase (R190 to R198, R223): the maximal run of prefixes, the escape that ends
it, and that neither the loop's bound nor the bytes behind its end matter. -/

namespace Sys2Proof.Machine

/-! ### The maximal run -/

/-- A flag that the bytes with `p` set is set exactly when one of them was consumed (R194 to R197). -/
theorem contextAfter_flag_iff {flag : Ctx → Bool} {p : Byte → Prop} [DecidablePred p]
    (hzero : flag Ctx.zero = false) (hconsume : ∀ x b, flag (x.consume b) = (flag x || decide (p b)))
    (buf : Nat → Byte) (k : Nat) : flag (contextAfter buf k) = true ↔ ∃ i < k, p (buf i) := by
  induction k with
  | zero => simp [contextAfter, hzero]
  | succ k ih => rw [Nat.exists_lt_succ_right, ← ih]; simp [contextAfter, hconsume]

theorem prefixPhaseEnd_flag_iff (c : Config) (buf : Nat → Byte) {n : Nat} (hn : n ≤ 15) {flag : Ctx → Bool}
    {p : Byte → Prop} [DecidablePred p] (hzero : flag Ctx.zero = false)
    (hconsume : ∀ x b, flag (x.consume b) = (flag x || decide (p b))) :
    flag (prefixPhaseEnd c buf n) = true ↔ ∃ i < (prefixPhaseEnd c buf n).pfx.toNat, p (buf i) := by
  have h := contextAfter_flag_iff hzero hconsume buf (prefixPhaseEnd c buf n).pfx.toNat
  rwa [← (prefixPhaseEnd_run c buf hn).context rfl] at h

/-- The escape ends the phase, so it is the last byte or not there at all (R194). -/
theorem prefixPhaseEnd_esc_iff (c : Config) (buf : Nat → Byte) {n : Nat} (hn : n ≤ 15) :
    (prefixPhaseEnd c buf n).esc = true ↔
      0 < (prefixPhaseEnd c buf n).pfx.toNat ∧ buf ((prefixPhaseEnd c buf n).pfx.toNat - 1) = 0x0F#8 := by
  rw [prefixPhaseEnd_flag_iff c buf hn rfl Ctx.consume_esc]
  constructor
  · rintro ⟨i, hi, hb⟩
    have hlast : ¬i + 1 < (prefixPhaseEnd c buf n).pfx.toNat := fun h =>
      (prefixPhaseEnd_run c buf hn).noEscape i (Nat.zero_le i) h hb
    obtain rfl : i = (prefixPhaseEnd c buf n).pfx.toNat - 1 := by omega
    exact ⟨by omega, hb⟩
  · rintro ⟨hpos, hb⟩
    exact ⟨_, by omega, hb⟩

/-- Where the loop's test fails, one of its three conditions does (R190). -/
theorem prefixByte_false_cases {c : Config} {buf : Nat → Byte} {n : Nat} {x : Ctx}
    (h : prefixByte c buf n x = false) :
    n ≤ x.pfx.toNat ∨ x.esc = true ∨ (c.t1 (buf x.pfx.toNat)).cat ≠ .PFX := by
  by_contra hno
  simp only [not_or, not_le, not_not, Bool.not_eq_true] at hno
  exact Bool.false_ne_true (h.symm.trans (prefixByte_iff.mpr hno))

/-- Settles O50: the loop's run, the flags of the bytes it consumed, and the test that stopped it. -/
theorem prefixPhaseIsTheMaximalRun : Obligations.PrefixPhaseIsTheMaximalRun := by
  intro c buf n hn x
  have run : PrefixRun c buf n Ctx.zero x := prefixPhaseEnd_run c buf hn
  have hstop : x.pfx.toNat = n ∨ x.esc = true ∨ (c.t1 (buf x.pfx.toNat)).cat ≠ .PFX :=
    (prefixByte_false_cases run.stopped).imp_left (Nat.le_antisymm run.upper)
  exact ⟨run.upper, fun i => run.tagged i (Nat.zero_le i), fun i => run.noEscape i (Nat.zero_le i),
    prefixPhaseEnd_esc_iff c buf hn, prefixPhaseEnd_flag_iff c buf hn rfl Ctx.consume_op16,
    prefixPhaseEnd_flag_iff c buf hn rfl Ctx.consume_addr16, prefixPhaseEnd_flag_iff c buf hn rfl Ctx.consume_rexw,
    hstop⟩

/-! ### The prefix loop -/

/-- At the end of the window the loop stops: the bound is tested before the read (R190). -/
theorem prefixByte_outside {c : Config} {buf : Nat → Byte} {n : Nat} {x : Ctx} (h : n ≤ x.pfx.toNat) :
    prefixByte c buf n x = false := by
  simp only [prefixByte, decide_eq_false (Nat.not_lt.mpr h), Bool.false_and]

theorem scanPrefixes_consume {c : Config} {buf : Nat → Byte} {n : Nat} {x : Ctx} (h : prefixByte c buf n x = true)
    (fuel : Nat) : scanPrefixes c buf n (fuel + 1) x = scanPrefixes c buf n fuel (x.consume (buf x.pfx.toNat)) :=
  if_pos h

theorem scanPrefixes_stop {c : Config} {buf : Nat → Byte} {n : Nat} {x : Ctx} (h : prefixByte c buf n x = false)
    (fuel : Nat) : scanPrefixes c buf n fuel x = x := by
  cases fuel with
  | zero => rfl
  | succ fuel => exact if_neg (h ▸ Bool.false_ne_true)

/-- A round for every byte of the window is enough, and more change nothing (R223). -/
theorem scanPrefixes_succ {c : Config} {buf : Nat → Byte} {n : Nat} (hn : n ≤ 15) {fuel : Nat} {x : Ctx}
    (hfuel : n - x.pfx.toNat ≤ fuel) : scanPrefixes c buf n (fuel + 1) x = scanPrefixes c buf n fuel x := by
  induction fuel generalizing x with
  | zero =>
    have hp : prefixByte c buf n x = false := prefixByte_outside (by omega)
    rw [scanPrefixes_stop hp, scanPrefixes_stop hp]
  | succ fuel ih =>
    cases hp : prefixByte c buf n x with
    | false => rw [scanPrefixes_stop hp, scanPrefixes_stop hp]
    | true =>
      obtain ⟨hlt, -, -⟩ := prefixByte_iff.mp hp
      have hcount := consume_pfx_toNat (x := x) (b := buf x.pfx.toNat) (by omega)
      rw [scanPrefixes_consume hp, scanPrefixes_consume hp]
      exact ih (by omega)

/-- Inside both windows the loop's test is the same. -/
theorem prefixByte_window {c : Config} {buf : Nat → Byte} {n n' : Nat} {x : Ctx} (h : x.pfx.toNat < n)
    (h' : x.pfx.toNat < n') : prefixByte c buf n' x = prefixByte c buf n x := by
  simp only [prefixByte, h, h']

/-- Another window gives the same end of the loop if it holds the byte the loop stops at (R190, R222). -/
theorem scanPrefixes_window {c : Config} {buf : Nat → Byte} {n n' : Nat} (hn : n ≤ 15) {fuel : Nat} {x : Ctx}
    (hx : x.pfx.toNat ≤ n) (hfuel : n - x.pfx.toNat ≤ fuel) (hlt : (scanPrefixes c buf n fuel x).pfx.toNat < n)
    (hlt' : (scanPrefixes c buf n fuel x).pfx.toNat < n') :
    scanPrefixes c buf n' fuel x = scanPrefixes c buf n fuel x := by
  induction fuel generalizing x with
  | zero => rfl
  | succ fuel ih =>
    have hlo := (scanPrefixes_run c buf hn (fuel + 1) x hx hfuel).lower
    have hwin : prefixByte c buf n' x = prefixByte c buf n x := prefixByte_window (by omega) (by omega)
    cases hp : prefixByte c buf n x with
    | false => rw [scanPrefixes_stop (hwin.trans hp), scanPrefixes_stop hp]
    | true =>
      obtain ⟨hinside, -, -⟩ := prefixByte_iff.mp hp
      have hcount := consume_pfx_toNat (x := x) (b := buf x.pfx.toNat) (by omega)
      rw [scanPrefixes_consume hp] at hlt hlt' ⊢
      rw [scanPrefixes_consume (hwin.trans hp)]
      exact ih (by omega) (by omega) hlt hlt'

theorem prefixPhaseEnd_window {c : Config} {buf : Nat → Byte} {n n' : Nat} (hn : n ≤ 15)
    (hlt : (prefixPhaseEnd c buf n).pfx.toNat < n) (hlt' : (prefixPhaseEnd c buf n).pfx.toNat < n') :
    prefixPhaseEnd c buf n' = prefixPhaseEnd c buf n :=
  scanPrefixes_window hn (Nat.zero_le _) (by simp only [maxLen]; omega) hlt hlt'

/-! ### The escape and the opcode behind it -/

/-- A window that begins with the escape: it is consumed, and the loop stops behind it (R194). -/
theorem prefixPhaseEnd_escape {c : Config} {buf : Nat → Byte} {n : Nat} (hpfx : (c.t1 0x0F#8).cat = .PFX)
    (h0 : buf 0 = 0x0F#8) (hn : 0 < n) : prefixPhaseEnd c buf n = ⟨1, true, false, false, false⟩ := by
  have hfirst : prefixByte c buf n Ctx.zero = true := prefixByte_iff.mpr ⟨hn, rfl, h0.symm ▸ hpfx⟩
  have hconsume : Ctx.zero.consume (buf Ctx.zero.pfx.toNat) = ⟨1, true, false, false, false⟩ :=
    congrArg Ctx.zero.consume h0
  have hstop : prefixByte c buf n ⟨1, true, false, false, false⟩ = false := by simp [prefixByte]
  calc prefixPhaseEnd c buf n
      = scanPrefixes c buf n 14 (Ctx.zero.consume (buf Ctx.zero.pfx.toNat)) := scanPrefixes_consume hfirst 14
    _ = ⟨1, true, false, false, false⟩ := by rw [hconsume, scanPrefixes_stop hstop]

/-- With a byte behind the prefixes the opcode phase gives the verdict (R192, R193). -/
theorem decodeVerdict_of_lt {c : Config} {buf : Nat → Byte} {len : Nat}
    (h : (prefixPhaseEnd c buf (min len 15)).pfx.toNat < min len 15) :
    decodeVerdict c buf len = opcodeVerdict c buf (min len 15) (prefixPhaseEnd c buf (min len 15)) :=
  if_neg (Nat.not_le.mpr h)

/-- Settles O51: the escape alone is consumed, and a second byte is left for the opcode phase. -/
theorem byteAfterTheEscapeIsTheOpcode : Obligations.ByteAfterTheEscapeIsTheOpcode := by
  intro c buf len hpfx h0 hlen
  have hend : prefixPhaseEnd c buf (min len 15) = ⟨1, true, false, false, false⟩ :=
    prefixPhaseEnd_escape hpfx h0 (by omega)
  refine ⟨hend, ?_⟩
  rw [decodeVerdict_of_lt (by rw [hend]; change 1 < min len 15; omega), hend]

/-! ### A prefix that sets no flag -/

theorem count_pfx_toNat {x : Ctx} (h : x.pfx.toNat < 15) : x.count.pfx.toNat = x.pfx.toNat + 1 := by
  rw [Ctx.count_pfx, BitVec.toNat_add]; simp; omega

/-- One count more does not change what a byte does (R191). -/
theorem consume_count (x : Ctx) (b : Byte) : x.count.consume b = (x.consume b).count := by
  dsimp only [Ctx.consume]
  repeat' split
  all_goals rfl

/-- The loop behind one more prefix runs as the loop without it (R198). -/
theorem scanPrefixes_count {c : Config} {buf : Nat → Byte} {n : Nat} (hn : n ≤ 14) {fuel : Nat} {x : Ctx}
    (hx : x.pfx.toNat ≤ n) :
    scanPrefixes c buf (n + 1) fuel x.count = (scanPrefixes c (fun i => buf (i + 1)) n fuel x).count := by
  induction fuel generalizing x with
  | zero => rfl
  | succ fuel ih =>
    have hone : x.count.pfx.toNat = x.pfx.toNat + 1 := count_pfx_toNat (by omega)
    have htest : prefixByte c buf (n + 1) x.count = prefixByte c (fun i => buf (i + 1)) n x := by
      simp only [prefixByte, hone, Ctx.count_esc, Nat.add_lt_add_iff_right]
    cases hp : prefixByte c (fun i => buf (i + 1)) n x with
    | false => rw [scanPrefixes_stop (htest.trans hp), scanPrefixes_stop hp]
    | true =>
      obtain ⟨hlt, -, -⟩ := prefixByte_iff.mp hp
      have hcount := consume_pfx_toNat (x := x) (b := buf (x.pfx.toNat + 1)) (by omega)
      rw [scanPrefixes_consume (htest.trans hp), scanPrefixes_consume hp, hone, consume_count]
      exact ih (by omega)

/-- A prefix of R198 in front of a window is counted and changes nothing else of the phase. -/
theorem prefixPhaseEnd_untracked {c : Config} {buf : Nat → Byte} {n : Nat} (hn : n ≤ 14)
    (hpfx : (c.t1 (buf 0)).cat = .PFX) (huntracked : ∀ x : Ctx, x.consume (buf 0) = x.count) :
    prefixPhaseEnd c buf (n + 1) = (prefixPhaseEnd c (fun i => buf (i + 1)) n).count := by
  have hfirst : prefixByte c buf (n + 1) Ctx.zero = true := prefixByte_iff.mpr ⟨Nat.succ_pos n, rfl, hpfx⟩
  calc prefixPhaseEnd c buf (n + 1)
      = scanPrefixes c buf (n + 1) 14 (Ctx.zero.consume (buf 0)) := scanPrefixes_consume hfirst 14
    _ = scanPrefixes c buf (n + 1) 14 Ctx.zero.count := by rw [huntracked]
    _ = (scanPrefixes c (fun i => buf (i + 1)) n 14 Ctx.zero).count := scanPrefixes_count hn (Nat.zero_le n)
    _ = (prefixPhaseEnd c (fun i => buf (i + 1)) n).count :=
      congrArg Ctx.count (scanPrefixes_succ (by omega) hn).symm

end Sys2Proof.Machine
end

section
/-! PROOFS (43_main_decode.md). The opcode phase and the whole of `DECODE` as functions of the window (R193, R199 to
R222): the bounds of a length, what more or fewer bytes change, and what one more prefix changes. -/

namespace Sys2Proof.Machine

/-! ### The opcode's entry -/

/-- A final entry gives its own category (R201). -/
theorem opcodeVerdict_final {c : Config} {buf : Nat → Byte} {n : Nat} {x : Ctx}
    (hm : (activeEntry c x (buf x.pfx.toNat)).multi = false) :
    opcodeVerdict c buf n x = lengthVerdict c buf n x (activeEntry c x (buf x.pfx.toNat)).cat
      (activeEntry c x (buf x.pfx.toNat)).imm64 0 := by
  simp only [opcodeVerdict, hm, Bool.false_eq_true, if_false]

/-- A `multi` entry gives what the resolver answers (R199). -/
theorem opcodeVerdict_found {c : Config} {buf : Nat → Byte} {n : Nat} {x : Ctx} {cat : Category} {extra : Nat}
    (hm : (activeEntry c x (buf x.pfx.toNat)).multi = true)
    (hs : special c buf x.pfx.toNat (n - x.pfx.toNat) x.esc = .found cat extra) :
    opcodeVerdict c buf n x = lengthVerdict c buf n x cat false extra := by
  simp only [opcodeVerdict, hm, hs, if_true]

theorem opcodeVerdict_failed {c : Config} {buf : Nat → Byte} {n : Nat} {x : Ctx} {cause : Cause}
    (hm : (activeEntry c x (buf x.pfx.toNat)).multi = true)
    (hs : special c buf x.pfx.toNat (n - x.pfx.toNat) x.esc = .failed cause) :
    opcodeVerdict c buf n x = .failure cause := by
  simp only [opcodeVerdict, hm, hs, if_true]

/-- Where a length comes from: the opcode's own entry, or the resolver's answer. -/
theorem opcodeVerdict_length {c : Config} {buf : Nat → Byte} {n : Nat} {x : Ctx} {L : Nat}
    (h : opcodeVerdict c buf n x = .length L) :
    ((activeEntry c x (buf x.pfx.toNat)).multi = false ∧
      lengthVerdict c buf n x (activeEntry c x (buf x.pfx.toNat)).cat
        (activeEntry c x (buf x.pfx.toNat)).imm64 0 = .length L) ∨
    ((activeEntry c x (buf x.pfx.toNat)).multi = true ∧ ∃ cat extra,
      special c buf x.pfx.toNat (n - x.pfx.toNat) x.esc = .found cat extra ∧
      lengthVerdict c buf n x cat false extra = .length L) := by
  cases hm : (activeEntry c x (buf x.pfx.toNat)).multi with
  | false => exact .inl ⟨rfl, opcodeVerdict_final hm ▸ h⟩
  | true =>
    cases hs : special c buf x.pfx.toNat (n - x.pfx.toNat) x.esc with
    | found cat extra => exact .inr ⟨rfl, cat, extra, rfl, opcodeVerdict_found hm hs ▸ h⟩
    | failed cause => nomatch (opcodeVerdict_failed hm hs).symm.trans h

/-! ### The bounds of a length -/

theorem opcodeVerdict_bounds {c : Config} {buf : Nat → Byte} {n : Nat} {x : Ctx} {L : Nat}
    (h : opcodeVerdict c buf n x = .length L) : x.pfx.toNat + 1 ≤ L ∧ L ≤ n := by
  obtain ⟨-, hlen⟩ | ⟨-, _, _, -, hlen⟩ := opcodeVerdict_length h
  · exact lengthVerdict_bounds hlen
  · exact lengthVerdict_bounds hlen

/-- A length is found by the opcode phase, behind the prefixes and inside the window (R192). -/
theorem decodeVerdict_length {c : Config} {buf : Nat → Byte} {len L : Nat} (h : decodeVerdict c buf len = .length L) :
    (prefixPhaseEnd c buf (min len 15)).pfx.toNat + 1 ≤ L ∧ L ≤ min len 15 ∧
    opcodeVerdict c buf (min len 15) (prefixPhaseEnd c buf (min len 15)) = .length L := by
  by_cases hn : (prefixPhaseEnd c buf (min len 15)).pfx.toNat < min len 15
  · rw [decodeVerdict_of_lt hn] at h
    obtain ⟨hlo, hup⟩ := opcodeVerdict_bounds h
    exact ⟨hlo, hup, h⟩
  · rw [decodeVerdict, maxLen, if_pos (Nat.not_lt.mp hn)] at h
    nomatch h

/-- Settles O39: the opcode byte is counted, and the final check holds the length in the window (R219). -/
theorem returnedLengthIsBounded : Obligations.ReturnedLengthIsBounded := by
  intro c buf len L h
  obtain ⟨hlo, hup, -⟩ := decodeVerdict_length (decodeResult_valid_iff.mp h)
  exact ⟨by omega, by omega, by omega⟩

/-! ### Another window -/

/-- The addressing size does not depend on the window, but for the window test (R151, R161). -/
theorem addrSize_is_fits (x : Ctx) (buf : Nat → Byte) (o : Nat) :
    ∃ r ≥ 1, ∀ rem, addrSize x buf o rem = fits r rem := by
  cases hx : x.addr16 with
  | false =>
    obtain ⟨hpos, -⟩ := addr32Size_bounds (buf o) (buf (o + 1))
    exact ⟨_, hpos, fun rem => by simp only [addrSize, hx, addr32_eq_fits, Bool.false_eq_true, if_false]⟩
  | true =>
    obtain ⟨hpos, -⟩ := addr16Size_bounds (buf o)
    exact ⟨_, hpos, fun rem => by simp only [addrSize, hx, addr16_eq_fits, if_true]⟩

theorem bounded_window {n n' L k : Nat} (h : bounded n L = .length k) (hk : k ≤ n') : bounded n' L = .length k := by
  obtain ⟨rfl, -⟩ := bounded_length h
  exact bounded_of_le hk

/-- A window that holds the length holds the addressing bytes, so the resolver answers the same. -/
theorem boundedModRM_window {buf : Nat → Byte} {n n' : Nat} {x : Ctx} {extra imm L : Nat}
    (h : boundedModRM buf n x extra imm = .length L) (hL : L ≤ n') : boundedModRM buf n' x extra imm = .length L := by
  obtain ⟨r, hr, hfits⟩ := addrSize_is_fits x buf (x.pfx.toNat + (1 + extra))
  obtain ⟨ha, hlen, hn⟩ := boundedModRM_length h
  rw [hfits] at ha hlen
  have hself : fits r (n - (x.pfx.toNat + (1 + extra))) = r := (fits_eq_zero_or_self _ _).resolve_left ha
  rw [hself] at hlen
  have hself' : fits r (n' - (x.pfx.toNat + (1 + extra))) = r := fits_of_le (by omega)
  simp only [boundedModRM, hfits, hself']
  rw [if_neg (by omega), ← hlen, bounded_of_le hL]

theorem lengthVerdict_window {c : Config} {buf : Nat → Byte} {n n' : Nat} {x : Ctx} {cat : Category} {imm64 : Bool}
    {extra L : Nat} (h : lengthVerdict c buf n x cat imm64 extra = .length L) (hL : L ≤ n') :
    lengthVerdict c buf n' x cat imm64 extra = .length L := by
  cases cat with
  | INV | PFX => nomatch h
  | NP | O | AI8 | AI | D | I16 | II => exact bounded_window h hL
  | M | MR | MI8 | MRI8 | MI => exact boundedModRM_window h hL

/-- A ModRM category counts the opcode bytes and at least the ModRM byte (R200, R204). -/
theorem lengthVerdict_modRM_bound {c : Config} {buf : Nat → Byte} {n : Nat} {x : Ctx} {cat : Category} {imm64 : Bool}
    {extra L : Nat} (hcat : cat.hasModRM = true) (h : lengthVerdict c buf n x cat imm64 extra = .length L) :
    x.pfx.toNat + 2 ≤ L := by
  cases cat with
  | INV | PFX | NP | O | AI8 | AI | D | I16 | II => nomatch hcat
  | M | MR | MI8 | MRI8 | MI =>
    obtain ⟨ha, hlen, -⟩ := boundedModRM_length h
    omega

/-- A window that holds the length holds the second byte of a `multi` entry, so the opcode phase is the same. -/
theorem opcodeVerdict_window {c : Config} {buf : Nat → Byte} {n n' : Nat} {x : Ctx} {L : Nat}
    (h : opcodeVerdict c buf n x = .length L) (hL : L ≤ n') : opcodeVerdict c buf n' x = .length L := by
  obtain ⟨hm, hlen⟩ | ⟨hm, cat, extra, hs, hlen⟩ := opcodeVerdict_length h
  · rw [opcodeVerdict_final hm]
    exact lengthVerdict_window hlen hL
  · obtain ⟨hcat, -, h2⟩ := special_found hs
    have hbound := lengthVerdict_modRM_bound hcat hlen
    have hs' : special c buf x.pfx.toNat (n' - x.pfx.toNat) x.esc = .found cat extra := by
      rw [← hs, special_pair c buf _ (n - x.pfx.toNat) _ h2, special_pair c buf _ (n' - x.pfx.toNat) _ (by omega)]
    rw [opcodeVerdict_found hm hs']
    exact lengthVerdict_window hlen hL

/-- A length is found in every window that holds it (R222). -/
theorem decodeResult_window {c : Config} {buf : Nat → Byte} {len len' L : Nat} (h : decodeResult c buf len = .valid L)
    (hL : L ≤ len') : decodeResult c buf len' = .valid L := by
  obtain ⟨hlo, hup, hop⟩ := decodeVerdict_length (decodeResult_valid_iff.mp h)
  have hend : prefixPhaseEnd c buf (min len' 15) = prefixPhaseEnd c buf (min len 15) :=
    prefixPhaseEnd_window (Nat.min_le_right len 15) (by omega) (by omega)
  rw [decodeResult_valid_iff, decodeVerdict_of_lt (by rw [hend]; omega), hend]
  exact opcodeVerdict_window hop (by omega)

/-- Settles O48: a shorter window's length would be the longer one's too, which it cannot hold. -/
theorem windowMonotonicity : Obligations.WindowMonotonicity := by
  refine fun c buf len L h => ⟨fun len' hL => decodeResult_window h hL, fun len' hlt => ?_⟩
  cases h' : decodeResult c buf len' with
  | invalid => rfl
  | valid L' =>
    obtain ⟨-, -, hup⟩ := returnedLengthIsBounded c buf len L h
    obtain ⟨-, -, hup'⟩ := returnedLengthIsBounded c buf len' L' h'
    cases h.symm.trans (decodeResult_window h' (len' := len) (by omega))
    omega

/-! ### One more prefix -/

/-- The verdict one byte longer. -/
def Verdict.succ : Verdict → Verdict
  | .length L => .length (L + 1)
  | .failure cause => .failure cause

theorem bounded_succ {n L L' : Nat} (h : L' = L + 1) : bounded (n + 1) L' = (bounded n L).succ := by
  subst h
  by_cases hL : L ≤ n
  · rw [bounded_of_le hL, bounded_of_le (by omega)]; rfl
  · rw [bounded_of_lt (by omega), bounded_of_lt (by omega)]; rfl

theorem boundedModRM_count {buf : Nat → Byte} {n : Nat} {x : Ctx} (hx : x.pfx.toNat < 15) (extra imm : Nat) :
    boundedModRM buf (n + 1) x.count extra imm = (boundedModRM (fun i => buf (i + 1)) n x extra imm).succ := by
  have ho : x.count.pfx.toNat + (1 + extra) = x.pfx.toNat + (1 + extra) + 1 := by rw [count_pfx_toNat hx]; omega
  have ha (o rem : Nat) : addrSize x.count buf (o + 1) rem = addrSize x (fun i => buf (i + 1)) o rem := rfl
  simp only [boundedModRM, ho, ha, Nat.add_sub_add_right]
  split
  · rfl
  · exact bounded_succ (by omega)

theorem lengthVerdict_count {c : Config} {buf : Nat → Byte} {n : Nat} {x : Ctx} (hx : x.pfx.toNat < 15)
    (cat : Category) (imm64 : Bool) (extra : Nat) :
    lengthVerdict c buf (n + 1) x.count cat imm64 extra =
      (lengthVerdict c (fun i => buf (i + 1)) n x cat imm64 extra).succ := by
  have hone := count_pfx_toNat hx
  have himmw (b : Bool) : immw c x.count b = immw c x b := rfl
  cases cat with
  | INV | PFX => rfl
  | NP | O | AI8 | I16 | II => exact bounded_succ (by omega)
  | AI | D => exact bounded_succ (by rw [himmw]; omega)
  | M | MR | MI8 | MRI8 | MI => exact boundedModRM_count hx _ _

/-- The opcode phase behind one more counted byte (R198): the same arm, one byte further on. -/
theorem opcodeVerdict_count {c : Config} {buf : Nat → Byte} {n : Nat} {x : Ctx} (hx : x.pfx.toNat < 15) :
    opcodeVerdict c buf (n + 1) x.count = (opcodeVerdict c (fun i => buf (i + 1)) n x).succ := by
  have hentry (b : Byte) : activeEntry c x.count b = activeEntry c x b := rfl
  have hspecial (o rem : Nat) : special c buf (o + 1) rem x.esc = special c (fun i => buf (i + 1)) o rem x.esc := rfl
  simp only [opcodeVerdict, count_pfx_toNat hx, hentry, Ctx.count_esc, hspecial, Nat.add_sub_add_right]
  split
  · split
    · exact lengthVerdict_count hx _ _ _
    · rfl
  · exact lengthVerdict_count hx _ _ _

/-- One more prefix that sets no flag: the same verdict, one byte longer (R198, R222). -/
theorem decodeVerdict_untracked {c : Config} {buf : Nat → Byte} {len : Nat} (hlen : len ≤ 14)
    (hpfx : (c.t1 (buf 0)).cat = .PFX) (huntracked : ∀ x : Ctx, x.consume (buf 0) = x.count) :
    decodeVerdict c buf (len + 1) = (decodeVerdict c (fun i => buf (i + 1)) len).succ := by
  have hup := (prefixPhaseEnd_run c (fun i => buf (i + 1)) (n := len) (by omega)).upper
  have hx : (prefixPhaseEnd c (fun i => buf (i + 1)) len).pfx.toNat < 15 := by omega
  have hn : min len maxLen = len := Nat.min_eq_left (by simp only [maxLen]; omega)
  have hn' : min (len + 1) maxLen = len + 1 := Nat.min_eq_left (by simp only [maxLen]; omega)
  simp only [decodeVerdict, hn, hn', prefixPhaseEnd_untracked hlen hpfx huntracked, count_pfx_toNat hx,
    Nat.add_le_add_iff_right]
  split
  · rfl
  · exact opcodeVerdict_count hx

/-- Settles O49: in the window that ends with the instruction the verdict is one longer, and so it is in every window
that holds it. -/
theorem untrackedPrefixAddsOne : Obligations.UntrackedPrefixAddsOne := by
  intro c p w len L hpfx h0F h66 h67 hrex h hL
  obtain ⟨-, -, hup⟩ := returnedLengthIsBounded c _ len L h
  have htight : decodeVerdict c (bytesFrom w) L = .length L :=
    decodeResult_valid_iff.mp (decodeResult_window h (Nat.le_refl L))
  have hlonger : decodeVerdict c (bytesFrom (p :: w)) (L + 1) = (decodeVerdict c (bytesFrom w) L).succ :=
    decodeVerdict_untracked (by omega) hpfx fun x => Ctx.consume_untracked x h0F h66 h67 hrex
  rw [htight] at hlonger
  exact decodeResult_window (decodeResult_valid_iff.mpr hlonger) (by omega)

/-! ### Entries without a rule -/

/-- An opcode without an arm: none of the three escaped ones, nor `F6`, nor `F7` under its arm (R177). -/
theorem special_noArm {c : Config} {buf : Nat → Byte} {o rem : Nat} {esc : Bool} (h2 : 2 ≤ rem)
    (hescaped : esc = true → buf o ≠ 0x01#8 ∧ buf o ≠ 0x38#8 ∧ buf o ≠ 0x3A#8)
    (hplain : esc = false → buf o ≠ 0xF6#8 ∧ (buf o = 0xF7#8 → c.scF7 = .none)) :
    special c buf o rem esc = .failed .specialUnlisted := by
  have hshort : ¬rem < 2 := by omega
  cases esc with
  | true =>
    obtain ⟨h01, h38, h3A⟩ := hescaped rfl
    simp [special, hshort, h01, h38, h3A]
  | false =>
    obtain ⟨hF6, hF7⟩ := hplain rfl
    have harm : ¬(buf o = 0xF7#8 ∧ c.scF7 = .arm) := fun ⟨hop, h⟩ => nomatch (hF7 hop).symm.trans h
    simp [special, hshort, hF6, harm]

/-- Settles O52: the category arm of `PFX`, and the resolver without an arm. -/
theorem entriesWithoutARuleFail : Obligations.EntriesWithoutARuleFail := by
  intro c buf len n x op hn
  rw [decodeVerdict_of_lt hn]
  refine ⟨fun hesc hm hcat => ?_, fun hm h2 hescaped hplain => ?_⟩
  · have hentry : activeEntry c x op = c.t2 op := if_pos hesc
    rw [opcodeVerdict_final (hentry ▸ hm)]
    change lengthVerdict c buf n x (activeEntry c x op).cat _ 0 = _
    rw [hentry, hcat]
    rfl
  · exact opcodeVerdict_failed hm (special_noArm (Nat.le_sub_of_add_le' h2) hescaped hplain)

end Sys2Proof.Machine
end

section
/-! PROOFS (43_main_decode.md). The stepping machine computes `DECODE` (R221): what a running block is going to show is
said by its registers and window, no step changes it, and the last step puts it on the ports. -/

namespace Sys2Proof.Machine

/-! ### What a block is going to show -/

/-- The pseudocode of R221 taken up where the block stands: the rest of the prefix loop, then the opcode phase. -/
def State.verdict (s : State) : Verdict :=
  let x := scanPrefixes machineConfig s.byte s.window maxLen s.ctx
  if s.window ≤ x.pfx.toNat then .failure .noOpcode else opcodeVerdict machineConfig s.byte s.window x

/-- What the ports show, or will show at the end of the running transaction. -/
def State.outcome (s : State) : Result := if s.phase = .idle then s.result else s.verdict.result

theorem outcome_idle {s : State} (h : s.phase = .idle) : s.outcome = s.result := if_pos h

theorem outcome_running {s : State} (h : s.running) : s.outcome = s.verdict.result := if_neg h

/-- A transaction starts with the whole of `DECODE` before it (R36, R264). -/
theorem startTransaction_outcome (bs : List Byte) (len : Nat) (s : State) :
    (startTransaction bs len s).outcome = decodeResult machineConfig (bytesFrom bs) len := by
  have hbyte : (startTransaction bs len s).byte = bytesFrom bs := funext (MemoryLaws.read_ofBytes bs)
  have hr : (startTransaction bs len s).running := running_of_phase (startTransaction_phase bs len s) (by decide)
  rw [outcome_running hr, State.verdict, hbyte]
  rfl

/-- Consuming a prefix byte is a round of the loop (R190, R191). -/
theorem verdict_consumed {s t : State} (hp : prefixByte machineConfig s.byte s.window s.ctx = true)
    (hctx : t.ctx = s.ctx.consume (s.byte s.ctx.pfx.toNat)) (hbyte : t.byte = s.byte) (hwindow : t.window = s.window) :
    t.verdict = s.verdict := by
  have h15 := window_le_fifteen s
  obtain ⟨hlt, -, -⟩ := prefixByte_iff.mp hp
  have hcount := consume_pfx_toNat (x := s.ctx) (b := s.byte s.ctx.pfx.toNat) (by omega)
  have hrounds : scanPrefixes machineConfig s.byte s.window maxLen s.ctx =
      scanPrefixes machineConfig s.byte s.window maxLen (s.ctx.consume (s.byte s.ctx.pfx.toNat)) :=
    (scanPrefixes_consume hp 14).trans (scanPrefixes_succ h15 (by omega)).symm
  simp only [State.verdict, hctx, hbyte, hwindow, hrounds]

/-- Where no prefix stands at the cursor the opcode phase gives the verdict (R193). -/
theorem verdict_opcode {s : State} (hp : prefixByte machineConfig s.byte s.window s.ctx = false)
    (hn : s.ctx.pfx.toNat < s.window) : s.verdict = opcodeVerdict machineConfig s.byte s.window s.ctx := by
  simp only [State.verdict, scanPrefixes_stop hp, if_neg (Nat.not_le.mpr hn)]

/-- R192. -/
theorem verdict_exhausted {s : State} (hn : s.window ≤ s.ctx.pfx.toNat) : s.verdict = .failure .noOpcode := by
  simp only [State.verdict, scanPrefixes_stop (prefixByte_outside hn), if_pos hn]

/-! ### The last step -/

theorem sizeModRM_result (extra imm : Nat) (s : State) :
    (sizeModRM extra imm s).result = (boundedModRM s.byte s.window s.ctx extra imm).result := by
  dsimp only [sizeModRM, boundedModRM]
  split
  · rfl
  · exact returnLength_result ..

/-- Every arm of the machine shows what the arm of the pseudocode answers (R201 to R219). -/
theorem resolveLength_result (cat : Category) (imm64 : Bool) (extra : Nat) (s : State) :
    (resolveLength cat imm64 extra s).result =
      (lengthVerdict machineConfig s.byte s.window s.ctx cat imm64 extra).result := by
  cases cat with
  | INV | PFX => rfl
  | NP | O | AI8 | I16 | II => exact sizePlain_result ..
  | AI | D => exact (sizePlain_result ..).trans (by rw [← Nat.add_assoc]; rfl)
  | M | MR | MI8 | MRI8 | MI => exact sizeModRM_result ..

/-! ### Every step -/

/-- An entry that is not tagged `PFX` stops the prefix loop, by its category or by the escape before it (R190). -/
theorem prefixByte_of_entry {c : Config} {buf : Nat → Byte} {x : Ctx}
    (h : (activeEntry c x (buf x.pfx.toNat)).cat ≠ .PFX) (n : Nat) : prefixByte c buf n x = false := by
  refine Bool.eq_false_iff.mpr fun hp => h ?_
  obtain ⟨-, hesc, hcat⟩ := prefixByte_iff.mp hp
  rw [activeEntry, hesc]
  exact hcat

/-- No `multi` entry of the machine's tables is tagged `PFX`. -/
theorem multi_not_pfx {x : Ctx} {b : Byte} (hm : (activeEntry machineConfig x b).multi = true) :
    (activeEntry machineConfig x b).cat ≠ .PFX := by
  cases hesc : x.esc with
  | true => simpa only [activeEntry, hesc, if_true] using t2_no_pfx b
  | false =>
    simp only [activeEntry, hesc, Bool.false_eq_true, if_false] at hm ⊢
    exact t1_multi_not_pfx b hm

/-- The step that consumes a prefix byte (R190, R191). -/
theorem step_prefix_outcome {s : State} (hs : s.Inv) (hr : s.running) (hl : s.phase ≠ .lengthPhase)
    (hn : s.ctx.pfx.toNat < s.window) (hc : (activeEntry machineConfig s.ctx (s.byte s.ctx.pfx.toNat)).cat = .PFX) :
    ∃ t, step s = .next t ∧ t.outcome = s.outcome := by
  have hpos := hs.cursor hr
  obtain ⟨onPfx, -, -⟩ := step_entry hr hl (by rwa [hpos]) rfl
  rw [hpos] at onPfx
  refine ⟨_, onPfx hc, ?_⟩
  have hprefix : s.phase = .prefixPhase :=
    (lookup_phase hr hl).resolve_right fun h => activeEntry_opcodePhase_not_pfx hs h _ hc
  have hp : prefixByte machineConfig s.byte s.window s.ctx = true :=
    prefixByte_iff.mpr ⟨hn, hs.prefixes hprefix, activeEntry_prefixPhase hs hprefix _ ▸ hc⟩
  have hnext : (if s.byte s.ctx.pfx.toNat = 0x0F#8 then Phase.opcodePhase else .prefixPhase) ≠ .idle := by
    split <;> decide
  rw [outcome_running hr]
  exact (outcome_running hnext).trans (congrArg Verdict.result (verdict_consumed hp rfl rfl rfl))

/-- The step that looks up an opcode: hand-over, failure or length (R199, R201). -/
theorem step_opcode_outcome {s : State} (hs : s.Inv) (hr : s.running) (hl : s.phase ≠ .lengthPhase)
    (hn : s.ctx.pfx.toNat < s.window) (hc : (activeEntry machineConfig s.ctx (s.byte s.ctx.pfx.toNat)).cat ≠ .PFX) :
    ∃ t, step s = .next t ∧ t.outcome = s.outcome := by
  have hpos := hs.cursor hr
  obtain ⟨-, onMulti, onFinal⟩ := step_entry hr hl (by rwa [hpos]) rfl
  rw [hpos] at onMulti onFinal
  rw [outcome_running hr]
  cases hm : (activeEntry machineConfig s.ctx (s.byte s.ctx.pfx.toNat)).multi with
  | true =>
    refine ⟨_, onMulti hm, ?_⟩
    by_cases h2 : s.ctx.pfx.toNat + 2 ≤ s.window
    · rw [enterResolver_ready h2]; rfl
    · have hshort : s.window - s.ctx.pfx.toNat < 2 := by omega
      rw [enterResolver_short hshort, verdict_opcode (prefixByte_of_entry hc _) hn,
        opcodeVerdict_failed hm (if_pos hshort)]
      rfl
  | false =>
    refine ⟨_, onFinal hm hc, ?_⟩
    rw [outcome_idle (resolveLength_phase ..), resolveLength_result, verdict_opcode (prefixByte_of_entry hc _) hn,
      opcodeVerdict_final hm]

/-- The step that resolves a pair (R178, R201). -/
theorem step_pair_outcome {s : State} (hs : s.Inv) (hl : s.phase = .lengthPhase) :
    ∃ t, step s = .next t ∧ t.outcome = s.outcome := by
  have hr := running_of_phase hl (by decide)
  have hpos := hs.cursor hr
  obtain ⟨h2, hm⟩ := hs.resolver hl
  have hstep := step_pair hl (by rwa [hpos]) (by rwa [hpos])
  rw [hpos] at hstep
  refine ⟨_, hstep, ?_⟩
  rw [outcome_running hr, verdict_opcode (prefixByte_of_entry (multi_not_pfx hm) _) (by omega)]
  cases hspec : special machineConfig s.byte s.ctx.pfx.toNat (s.window - s.ctx.pfx.toNat) s.ctx.esc with
  | found cat extra =>
    rw [opcodeVerdict_found hm hspec, outcome_idle (resolveLength_phase ..), resolveLength_result]
  | failed cause => rw [opcodeVerdict_failed hm hspec]; rfl

/-- No step changes what the block shows or is going to show (R31, R35). -/
theorem step_outcome {s t : State} (hs : s.Inv) (h : step s = .next t) : t.outcome = s.outcome := by
  suffices ∃ u, step s = .next u ∧ u.outcome = s.outcome by
    obtain ⟨u, hu, hout⟩ := this
    cases hu.symm.trans h
    exact hout
  by_cases hr : s.phase = .idle
  · exact ⟨s, step_idle hr, rfl⟩
  by_cases hl : s.phase = .lengthPhase
  · exact step_pair_outcome hs hl
  by_cases hn : s.ctx.pfx.toNat < s.window
  · by_cases hc : (activeEntry machineConfig s.ctx (s.byte s.ctx.pfx.toNat)).cat = .PFX
    · exact step_prefix_outcome hs hr hl hn hc
    · exact step_opcode_outcome hs hr hl hn hc
  · refine ⟨_, step_exhausted hr (by rw [hs.cursor hr]; omega), ?_⟩
    rw [outcome_running hr, verdict_exhausted (by omega)]
    rfl

/-! ### Whole transactions -/

/-- What every step keeps, a run keeps. -/
theorem runSteps_keeps {P : State → Prop} (hstep : ∀ s t, P s → step s = .next t → P t) {s : State} (hs : P s)
    (k : Nat) : P (runSteps k s) := by
  induction k generalizing s with
  | zero => exact hs
  | succ k ih =>
    obtain ⟨t, ht⟩ := step_next s
    rw [runSteps_of_step ht]
    exact ih (hstep s t hs ht)

/-- The invariant, the caller's inputs and the outcome are kept to the end of a transaction. -/
theorem transact_keeps (bs : List Byte) (len : Nat) (s : State) :
    (transact bs len s).Inv ∧ (transact bs len s).inLen = len ∧ (transact bs len s).mem = Memory.ofBytes bs ∧
    (transact bs len s).outcome = decodeResult machineConfig (bytesFrom bs) len := by
  refine runSteps_keeps (P := fun t => t.Inv ∧ t.inLen = len ∧ t.mem = Memory.ofBytes bs ∧
    t.outcome = decodeResult machineConfig (bytesFrom bs) len) ?_
    ⟨startTransaction_inv bs len s, rfl, rfl, startTransaction_outcome bs len s⟩ stepsToEnd
  rintro t u ⟨hinv, hlen, hmem, hout⟩ h
  obtain ⟨hlen', hmem'⟩ := step_keeps_inputs h
  exact ⟨stepKeepsTheInvariant t u hinv h, hlen'.trans hlen, hmem'.trans hmem, (step_outcome hinv h).trans hout⟩

/-- Settles O24: the outcome that `DECODE` gives at the start is on the ports of the idle block at the end. -/
theorem transactionComputesDecode : Obligations.TransactionComputesDecode := by
  intro bs len s
  have hidle := transact_phase bs len s
  obtain ⟨hinv, hlen, hmem, hout⟩ := transact_keeps bs len s
  refine ⟨hidle, (outcome_idle hidle).symm.trans hout, fun hinvalid => ?_, hlen, hmem⟩
  have hports := hinv.ports hidle
  rwa [State.portsLegal, hinvalid] at hports

end Sys2Proof.Machine
end

section
/-! PROOFS (60_exceptions.md). The one exception: what the software binding makes of it (R236), which cause each window
raises (R231, R233, R237) and which causes more bytes can mend (R239). -/

namespace Sys2Proof.Machine

/-! ### The software binding -/

/-- Settles O40: a length is at least 1 and the sentinel of a valid configuration is negative. -/
theorem sentinelIsNegative : Obligations.SentinelIsNegative := by
  intro c buf len hc
  have hneg : c.invalidSentinel < 0 := hc.sentinel_neg
  cases h : decodeResult c buf len with
  | invalid =>
    simp only [Result.toInt, true_iff, reduceCtorEq, false_iff]
    exact ⟨hneg, fun L => by omega, hneg.ne⟩
  | valid L =>
    obtain ⟨hpos, -, -⟩ := returnedLengthIsBounded c buf len L h
    simp only [Result.toInt, Result.valid.injEq, Nat.cast_inj, implies_true, true_and, reduceCtorEq, false_iff]
    omega

/-! ### The causes -/

/-- The final check fails for one cause only (R219). -/
theorem bounded_failure {n L : Nat} {cause : Cause} (h : bounded n L = .failure cause) : cause = .truncated := by
  by_cases hL : L ≤ n
  · nomatch (bounded_of_le hL).symm.trans h
  · cases (bounded_of_lt (Nat.not_le.mp hL)).symm.trans h
    rfl

/-- A ModRM category fails in its addressing or in the final check (R204, R219). -/
theorem boundedModRM_failure {buf : Nat → Byte} {n : Nat} {x : Ctx} {extra imm : Nat} {cause : Cause}
    (h : boundedModRM buf n x extra imm = .failure cause) : cause = .addrShort ∨ cause = .truncated := by
  dsimp only [boundedModRM] at h
  split at h
  · cases h
    exact .inl rfl
  · exact .inr (bounded_failure h)

/-- `INV` and `PFX` have a cause each; every other category fails for want of bytes (R205, R218, R233). -/
theorem lengthVerdict_failure {c : Config} {buf : Nat → Byte} {n : Nat} {x : Ctx} {cat : Category} {imm64 : Bool}
    {extra : Nat} {cause : Cause} (h : lengthVerdict c buf n x cat imm64 extra = .failure cause) :
    (cat = .INV ∧ cause = .invalidOpcode) ∨ (cat = .PFX ∧ cause = .noRule) ∨
      cause = .addrShort ∨ cause = .truncated := by
  cases cat with
  | INV => cases h; exact .inl ⟨rfl, rfl⟩
  | PFX => cases h; exact .inr (.inl ⟨rfl, rfl⟩)
  | NP | O | AI8 | AI | D | I16 | II => exact .inr (.inr (.inr (bounded_failure h)))
  | M | MR | MI8 | MRI8 | MI => exact .inr (.inr (boundedModRM_failure h))

/-- Why the opcode phase fails behind the context `x`, by the cause (R231, R237).  The two constructors without a
premise are the causes that the bytes after the opcode decide. -/
inductive OpcodeFailure (c : Config) (buf : Nat → Byte) (n : Nat) (x : Ctx) : Cause → Prop
  | invalid (final : (activeEntry c x (buf x.pfx.toNat)).multi = false)
      (cat : (activeEntry c x (buf x.pfx.toNat)).cat = .INV) : OpcodeFailure c buf n x .invalidOpcode
  | noRule (final : (activeEntry c x (buf x.pfx.toNat)).multi = false)
      (cat : (activeEntry c x (buf x.pfx.toNat)).cat = .PFX) : OpcodeFailure c buf n x .noRule
  | short (multi : (activeEntry c x (buf x.pfx.toNat)).multi = true)
      (missing : n - x.pfx.toNat < 2) : OpcodeFailure c buf n x .specialShort
  | unlisted (multi : (activeEntry c x (buf x.pfx.toNat)).multi = true) (present : 2 ≤ n - x.pfx.toNat)
      (answer : special c buf x.pfx.toNat (n - x.pfx.toNat) x.esc = .failed .specialUnlisted) :
      OpcodeFailure c buf n x .specialUnlisted
  | addrShort : OpcodeFailure c buf n x .addrShort
  | truncated : OpcodeFailure c buf n x .truncated

/-- Every failure of the opcode phase is one of these: by the entry's own category, by the resolver, or by the length
of the category that the resolver found, which is neither `INV` nor `PFX` (R170, R199, R201). -/
theorem opcodeVerdict_failure {c : Config} {buf : Nat → Byte} {n : Nat} {x : Ctx} {cause : Cause}
    (h : opcodeVerdict c buf n x = .failure cause) : OpcodeFailure c buf n x cause := by
  cases hm : (activeEntry c x (buf x.pfx.toNat)).multi with
  | false =>
    rw [opcodeVerdict_final hm] at h
    obtain ⟨hcat, rfl⟩ | ⟨hcat, rfl⟩ | rfl | rfl := lengthVerdict_failure h
    exacts [.invalid hm hcat, .noRule hm hcat, .addrShort, .truncated]
  | true =>
    cases hs : special c buf x.pfx.toNat (n - x.pfx.toNat) x.esc with
    | found cat extra =>
      obtain ⟨hmodRM, -, -⟩ := special_found hs
      rw [opcodeVerdict_found hm hs] at h
      obtain ⟨rfl, -⟩ | ⟨rfl, -⟩ | rfl | rfl := lengthVerdict_failure h
      · nomatch hmodRM
      · nomatch hmodRM
      · exact .addrShort
      · exact .truncated
    | failed cause' =>
      cases (opcodeVerdict_failed hm hs).symm.trans h
      by_cases h2 : n - x.pfx.toNat < 2
      · cases hs.symm.trans (if_pos h2)
        exact .short hm h2
      · cases special_failed_cause (Nat.not_lt.mp h2) hs
        exact .unlisted hm (Nat.not_lt.mp h2) hs

theorem opcodeVerdict_specialShort_iff {c : Config} {buf : Nat → Byte} {n : Nat} {x : Ctx} :
    opcodeVerdict c buf n x = .failure .specialShort ↔
      n - x.pfx.toNat < 2 ∧ (activeEntry c x (buf x.pfx.toNat)).multi = true := by
  constructor
  · intro h
    cases opcodeVerdict_failure h with
    | short hm hshort => exact ⟨hshort, hm⟩
  · rintro ⟨hshort, hm⟩
    exact opcodeVerdict_failed hm (if_pos hshort)

theorem opcodeVerdict_invalidOpcode_iff {c : Config} {buf : Nat → Byte} {n : Nat} {x : Ctx} :
    opcodeVerdict c buf n x = .failure .invalidOpcode ↔
      (activeEntry c x (buf x.pfx.toNat)).multi = false ∧ (activeEntry c x (buf x.pfx.toNat)).cat = .INV := by
  constructor
  · intro h
    cases opcodeVerdict_failure h with
    | invalid hm hcat => exact ⟨hm, hcat⟩
  · rintro ⟨hm, hcat⟩
    rw [opcodeVerdict_final hm, hcat]
    rfl

theorem opcodeVerdict_noRule_iff {c : Config} {buf : Nat → Byte} {n : Nat} {x : Ctx} :
    opcodeVerdict c buf n x = .failure .noRule ↔
      (activeEntry c x (buf x.pfx.toNat)).multi = false ∧ (activeEntry c x (buf x.pfx.toNat)).cat = .PFX := by
  constructor
  · intro h
    cases opcodeVerdict_failure h with
    | noRule hm hcat => exact ⟨hm, hcat⟩
  · rintro ⟨hm, hcat⟩
    rw [opcodeVerdict_final hm, hcat]
    rfl

/-! ### The whole of `DECODE` -/

/-- Only prefixes that exhaust the window leave no opcode (R192). -/
theorem decodeVerdict_noOpcode_iff {c : Config} {buf : Nat → Byte} {len : Nat} :
    decodeVerdict c buf len = .failure .noOpcode ↔
      min len 15 ≤ (prefixPhaseEnd c buf (min len 15)).pfx.toNat := by
  refine ⟨fun h => ?_, fun h => if_pos h⟩
  by_contra hlt
  rw [decodeVerdict_of_lt (Nat.not_le.mp hlt)] at h
  nomatch opcodeVerdict_failure h

/-- Every other cause is raised by the opcode phase, with the opcode in the window (R231). -/
theorem decodeVerdict_failure_iff {c : Config} {buf : Nat → Byte} {len : Nat} {cause : Cause}
    (hcause : cause ≠ .noOpcode) :
    decodeVerdict c buf len = .failure cause ↔
      (prefixPhaseEnd c buf (min len 15)).pfx.toNat < min len 15 ∧
      opcodeVerdict c buf (min len 15) (prefixPhaseEnd c buf (min len 15)) = .failure cause := by
  by_cases hlt : (prefixPhaseEnd c buf (min len 15)).pfx.toNat < min len 15
  · rw [decodeVerdict_of_lt hlt, and_iff_right hlt]
  · rw [decodeVerdict_noOpcode_iff.mpr (Nat.not_lt.mp hlt), Verdict.failure.injEq]
    exact iff_of_false hcause.symm fun ⟨h, _⟩ => hlt h

/-- Settles O43: the opcode phase's causes, and that the opcode is the last byte where it is in the window and the one
behind it is not. -/
theorem whenTheEarlyCausesAreRaised : Obligations.WhenTheEarlyCausesAreRaised := by
  intro c buf len n x e
  have hlast (p m : Nat) : p + 1 = m ↔ p < m ∧ m - p < 2 := by omega
  refine ⟨decodeVerdict_noOpcode_iff, ?_, ?_, ?_⟩
  · rw [hlast, and_assoc]
    exact (decodeVerdict_failure_iff (by decide)).trans (and_congr_right' opcodeVerdict_specialShort_iff)
  · exact (decodeVerdict_failure_iff (by decide)).trans (and_congr_right' opcodeVerdict_invalidOpcode_iff)
  · exact (decodeVerdict_failure_iff (by decide)).trans (and_congr_right' opcodeVerdict_noRule_iff)

/-- Settles O53: the length is the opcode byte behind the prefixes, and the opcode is in the window. -/
theorem noOperandOpcodeCannotFail : Obligations.NoOperandOpcodeCannotFail := by
  intro c buf len n x e hlt hm hcat
  rw [decodeVerdict_of_lt hlt, opcodeVerdict_final hm]
  change lengthVerdict c buf n x e.cat e.imm64 0 = _
  obtain hcat | hcat := hcat
  all_goals
    rw [hcat]
    exact bounded_of_le hlt

/-! ### More bytes -/

/-- The causes that no further byte can mend (R239). -/
theorem opcodeVerdict_unmendable {c : Config} {buf : Nat → Byte} {n n' : Nat} {x : Ctx} {cause : Cause}
    (hcause : cause = .invalidOpcode ∨ cause = .specialUnlisted ∨ cause = .noRule) (hn : n ≤ n')
    (h : opcodeVerdict c buf n x = .failure cause) : opcodeVerdict c buf n' x = .failure cause := by
  cases opcodeVerdict_failure h with
  | invalid hm hcat => exact opcodeVerdict_invalidOpcode_iff.mpr ⟨hm, hcat⟩
  | noRule hm hcat => exact opcodeVerdict_noRule_iff.mpr ⟨hm, hcat⟩
  | unlisted hm h2 hs =>
    refine opcodeVerdict_failed hm ?_
    rw [special_pair c buf _ _ _ (by omega), ← special_pair c buf _ _ _ h2, hs]
  | short | addrShort | truncated => simp at hcause

/-- Settles O54: the longer window has the same prefixes, opcode and second byte. -/
theorem retryCannotMendAnInvalidOpcode : Obligations.RetryCannotMendAnInvalidOpcode := by
  intro c buf len len' cause hcause hlen h
  have hne : cause ≠ .noOpcode := by
    rintro rfl
    simp at hcause
  obtain ⟨hlt, hop⟩ := (decodeVerdict_failure_iff hne).mp h
  have hend : prefixPhaseEnd c buf (min len' 15) = prefixPhaseEnd c buf (min len 15) :=
    prefixPhaseEnd_window (Nat.min_le_right len 15) hlt (by omega)
  rw [decodeVerdict_failure_iff hne, hend]
  exact ⟨by omega, opcodeVerdict_unmendable hcause (by omega) hop⟩

end Sys2Proof.Machine
end

section
/-! PROOFS (60_exceptions.md). Several blocks side by side: each is where its own steps alone take it (R250). -/

namespace Sys2Proof.Machine

/-- A run of `k + m` steps is `k` steps and then `m`. -/
theorem runSteps_add (k m : Nat) (s : State) : runSteps (k + m) s = runSteps m (runSteps k s) := by
  induction k generalizing s with
  | zero => rw [Nat.zero_add]; rfl
  | succ k ih => rw [Nat.succ_add, runSteps_succ, runSteps_succ k, ih]

/-- Settles O57, by induction on the interleaving: its first step is block `j`'s own or leaves block `j` alone. -/
theorem blocksDoNotInterfere : Obligations.BlocksDoNotInterfere := by
  intro ks blocks j
  induction ks generalizing blocks with
  | nil => simp [interleave, runSteps]
  | cons k ks ih =>
    rw [interleave, ih]
    by_cases hk : k = j
    · subst hk
      rw [stepAt_self, Option.map_map, List.count_cons_self]
      exact congrArg (Option.map · _) (funext fun s => (runSteps_succ _ s).symm)
    · rw [stepAt_other (Ne.symm hk), List.count_cons_of_ne hk]

/-- With 16 steps or more a started block is where the whole transaction leaves it: the rest is waiting (R261, R265). -/
theorem runSteps_startTransaction (bs : List Byte) (len : Nat) (s : State) {k : Nat} (hk : stepsToEnd ≤ k) :
    runSteps k (startTransaction bs len s) = transact bs len s := by
  obtain ⟨m, rfl⟩ := Nat.exists_eq_add_of_le hk
  rw [runSteps_add]
  exact runSteps_idle (transact_phase bs len s) m

/-- Settles O58: block `j` runs its own transaction to its end, which computes `DECODE` (O24). -/
theorem interleavedTransactionsEachComputeDecode : Obligations.InterleavedTransactionsEachComputeDecode := by
  intro ks blocks j bs len s hj hk
  obtain ⟨hidle, hresult, -, hlen, hmem⟩ := transactionComputesDecode bs len s
  refine ⟨transact bs len s, ?_, hidle, hresult, hlen, hmem⟩
  rw [blocksDoNotInterfere, hj, Option.map_some, runSteps_startTransaction bs len s hk]

end Sys2Proof.Machine
end

section
/-! PROOFS (70_reset_and_hazards.md). Waiting, the end of every step, and what the caller and the reset input can do to
a block with the invariant (R260, R261, R264, R265). -/

namespace Sys2Proof.Machine

/-- Settles O2: waiting is a step that changes nothing (R261). -/
theorem idleBlockWaits : Obligations.IdleBlockWaits := fun _ => step_idle

/-- Settles O6: a step waits, runs a row or takes DecodeFailure, and every row answers a next state (R265). -/
theorem everyStepAnswersNext : Obligations.EveryStepAnswersNext := ⟨step_next, exec_next⟩

/-! ### The caller's operations that are not refused -/

/-- A launch that is taken starts a transaction (R264). -/
theorem eq_startTransaction_of_launch {bs : List Byte} {len : Nat} {s t : State} (h : launch bs len s = .next t) :
    t = startTransaction bs len s := by
  by_cases hi : s.phase = .idle
  · by_cases hlen : len ≤ bs.length
    · cases (launch_idle hi hlen).symm.trans h
      rfl
    · nomatch (launch_untruthful hi (Nat.not_le.mp hlen)).symm.trans h
  · nomatch (launch_busy hi).symm.trans h

/-- A relaunch that is taken leaves the registers as a start does, and the buffer as it stands (R239, R264). -/
theorem registers_of_relaunch {len : Nat} {s t : State} (h : relaunch len s = .next t) :
    t.phase = .prefixPhase ∧ t.ctx = Ctx.zero ∧ t.pos = 0 ∧ t.mem = s.mem := by
  unfold relaunch at h
  split at h
  · nomatch h
  · cases h
    exact ⟨rfl, rfl, rfl, rfl⟩

/-- A write that is taken finds an idle block and changes its buffer only (R63). -/
theorem eq_write_of_callerStore {k : Nat} {b : Byte} {s t : State} (h : callerStore k b s = .next t) :
    s.phase = .idle ∧ t = { s with mem := s.mem.write k b } := by
  by_cases hi : s.phase = .idle
  · cases (callerStore_idle hi).symm.trans h
    exact ⟨hi, rfl⟩
  · nomatch (callerStore_busy hi).symm.trans h

/-! ### The invariant -/

/-- Zero registers in `PREFIX` meet the invariant on every canonical buffer: no byte has been consumed (R36). -/
theorem inv_of_start {s : State} (hp : s.phase = .prefixPhase) (hctx : s.ctx = Ctx.zero) (hpos : s.pos = 0)
    (hm : s.mem.wf = true) : s.Inv where
  memory := hm
  count _ := by rw [hctx]; exact Nat.zero_le _
  context _ := by rw [hctx]; rfl
  tagged _ := by rw [hctx]; exact nofun
  cursor _ := by rw [hctx, hpos]; rfl
  prefixes _ := by rw [hctx]; rfl
  opcode h := nomatch hp.symm.trans h
  resolver h := nomatch hp.symm.trans h
  ports h := nomatch hp.symm.trans h

/-- Settles O23: a reset and a write leave the block idle with legal ports, a launch and a relaunch leave it at the
start of a transaction, and each leaves the buffer canonical. -/
theorem callerAndResetKeepTheInvariant : Obligations.CallerAndResetKeepTheInvariant := by
  refine ⟨fun s hs => ?reset, fun bs len s t hs h => ?launch, fun len s t hs h => ?relaunch,
    fun k b s t hs h => ?write⟩
  case reset => exact inv_of_idle rfl hs.memory rfl
  case launch =>
    rw [eq_startTransaction_of_launch h]
    exact startTransaction_inv bs len s
  case relaunch =>
    obtain ⟨hp, hctx, hpos, hmem⟩ := registers_of_relaunch h
    exact inv_of_start hp hctx hpos (hmem ▸ hs.memory)
  case write =>
    obtain ⟨hi, rfl⟩ := eq_write_of_callerStore h
    exact inv_of_idle hi (MemoryLaws.write_wf hs.memory k b) (hs.ports hi)

end Sys2Proof.Machine
end

section
/-! PROOFS (70_reset_and_hazards.md, 95_test_vectors.md). Valid configurations (R263): the default one, and what the
source's six scenarios give under every one of them. A scenario is its prefix phase, by the pinned entries of the first
two bytes, and then the length of the pinned category on closed bytes. -/

namespace Sys2Proof.Machine

/-! ### The default configuration -/

/-- R122: the conditional branches of the default `T2`. -/
theorem t2_branch_entry (b : Byte) : 0x80#8 ≤ b → b ≤ 0x8F#8 → machineConfig.t2 b = ⟨.D, false, false⟩ := by
  revert b; decide +kernel

/-- The default configuration meets R263: a pinned entry is the cell of the default grid, and a rule about every byte is
a landmark of the tables. -/
theorem defaultConfig_valid : defaultConfig.Valid where
  t1_0F := rfl
  t1_66 := rfl
  t1_67 := rfl
  t1_48_4F b hlo hhi := (t1_pfx_iff b).mpr (.inr ⟨BitVec.le_trans (by decide) hlo, hhi⟩)
  t1_90 := ⟨.inl rfl, rfl⟩
  t1_89 := ⟨.inr rfl, rfl⟩
  t1_83 := rfl
  t1_FF := ⟨rfl, rfl⟩
  t1_F6 := rfl
  t1_F7 := rfl
  t2_01 := rfl
  t2_38 := rfl
  t2_3A := rfl
  t2_1F := ⟨.inl rfl, rfl⟩
  t2_80_8F := t2_branch_entry
  w38_small := by decide
  w3a_disjoint := nofun
  sentinel_neg := by decide
  t1_multi b h := ⟨by obtain rfl | rfl := t1_multi_cases b h <;> rfl, t1_multi_not_pfx b h⟩
  t2_multi b _ := t2_imm64 b

/-- Settles O38: the machine is built with the default configuration (R262). -/
theorem defaultConfigurationIsValid : Obligations.DefaultConfigurationIsValid :=
  ⟨defaultConfig_valid, defaultConfig_valid⟩

/-! ### Windows with at most one prefix -/

/-- A first byte that is no prefix is the opcode (R190). -/
theorem prefixPhaseEnd_opcodeFirst {c : Config} {buf : Nat → Byte} (h : (c.t1 (buf 0)).cat ≠ .PFX) (n : Nat) :
    prefixPhaseEnd c buf n = Ctx.zero :=
  scanPrefixes_stop (prefixByte_of_entry (x := Ctx.zero) h n) maxLen

/-- One prefix that is not the escape, and an opcode of `T1` behind it (R190, R191). -/
theorem prefixPhaseEnd_onePrefix {c : Config} {buf : Nat → Byte} {n : Nat} (hn : 0 < n)
    (hpfx : (c.t1 (buf 0)).cat = .PFX) (hesc : buf 0 ≠ 0x0F#8) (hop : (c.t1 (buf 1)).cat ≠ .PFX) :
    prefixPhaseEnd c buf n = Ctx.zero.consume (buf 0) := by
  have hfirst : prefixByte c buf n Ctx.zero = true := prefixByte_iff.mpr ⟨hn, rfl, hpfx⟩
  have hstop : prefixByte c buf n (Ctx.zero.consume (buf 0)) = false := by
    refine prefixByte_of_entry ?_ n
    have h0 : (Ctx.zero.consume (buf 0)).esc = false := by simp [Ctx.consume_esc, hesc]
    have h1 : (Ctx.zero.consume (buf 0)).pfx.toNat = 1 := consume_pfx_toNat (by decide)
    rwa [activeEntry, h0, h1]
  calc prefixPhaseEnd c buf n
      = scanPrefixes c buf n 14 (Ctx.zero.consume (buf 0)) := scanPrefixes_consume hfirst 14
    _ = Ctx.zero.consume (buf 0) := scanPrefixes_stop hstop 14

/-! ### The scenarios -/

/-- With a final entry behind the prefixes the result is that of the entry's category (R193, R201). -/
theorem decodeResult_final {c : Config} {buf : Nat → Byte} {len : Nat} {x : Ctx} {e : Entry}
    (hend : prefixPhaseEnd c buf (min len 15) = x) (hlt : x.pfx.toNat < min len 15)
    (he : activeEntry c x (buf x.pfx.toNat) = e) (hm : e.multi = false) :
    decodeResult c buf len = (lengthVerdict c buf (min len 15) x e.cat e.imm64 0).result := by
  subst hend he
  rw [decodeResult, decodeVerdict_of_lt hlt, opcodeVerdict_final hm]

/-- With a `multi` entry behind the prefixes it is that of the category that the resolver finds (R199). -/
theorem decodeResult_found {c : Config} {buf : Nat → Byte} {len : Nat} {x : Ctx} {e : Entry} {cat : Category}
    {extra : Nat} (hend : prefixPhaseEnd c buf (min len 15) = x) (hlt : x.pfx.toNat < min len 15)
    (he : activeEntry c x (buf x.pfx.toNat) = e) (hm : e.multi = true)
    (hs : special c buf x.pfx.toNat (min len 15 - x.pfx.toNat) x.esc = .found cat extra) :
    decodeResult c buf len = (lengthVerdict c buf (min len 15) x cat false extra).result := by
  subst hend he
  rw [decodeResult, decodeVerdict_of_lt hlt, opcodeVerdict_found hm hs]

theorem ne_pfx_of_hasModRM {cat : Category} (h : cat.hasModRM = true) : cat ≠ .PFX := by
  rintro rfl
  nomatch h

theorem hasModRM_of_M_or_MR {cat : Category} (h : cat = .M ∨ cat = .MR) : cat.hasModRM = true := by
  obtain rfl | rfl := h <;> rfl

/-- `M` and `MR` give one length (R208, R209). -/
theorem lengthVerdict_M_or_MR {c : Config} {buf : Nat → Byte} {n : Nat} {x : Ctx} {cat : Category} {imm64 : Bool}
    {extra : Nat} (h : cat = .M ∨ cat = .MR) :
    lengthVerdict c buf n x cat imm64 extra = boundedModRM buf n x extra 0 := by
  obtain rfl | rfl := h <;> rfl

/-- A ModRM category without its ModRM byte in the window has no length (R204). -/
theorem lengthVerdict_modRM_missing {c : Config} {buf : Nat → Byte} {n : Nat} {x : Ctx} {cat : Category} {imm64 : Bool}
    {extra : Nat} (hcat : cat.hasModRM = true) (hn : n ≤ x.pfx.toNat + 1) :
    (lengthVerdict c buf n x cat imm64 extra).result = .invalid := by
  cases h : lengthVerdict c buf n x cat imm64 extra with
  | failure cause => rfl
  | length L =>
    have hlo := lengthVerdict_modRM_bound hcat h
    obtain ⟨-, hup⟩ := lengthVerdict_bounds h
    omega

/-- Scenario 1, `nop`: the opcode alone (R110). -/
theorem decodeResult_90 {c : Config} (hc : c.Valid) : decodeResult c (bytesFrom [0x90#8]) 1 = .valid 1 := by
  obtain ⟨hcat, hm⟩ := hc.t1_90
  have hnp : (c.t1 0x90#8).cat ≠ .PFX := by obtain h | h := hcat <;> rw [h] <;> decide
  have hend := prefixPhaseEnd_opcodeFirst (buf := bytesFrom [0x90#8]) hnp 1
  rw [decodeResult_final hend (by decide) (e := c.t1 0x90#8) rfl hm]
  obtain h | h := hcat <;> rw [h] <;> rfl

/-- Scenario 2: a REX form, and a ModRM byte that names a register (R105, R111). -/
theorem decodeResult_48_89_E5 {c : Config} (hc : c.Valid) :
    decodeResult c (bytesFrom [0x48#8, 0x89#8, 0xE5#8]) 3 = .valid 3 := by
  obtain ⟨hcat, hm⟩ := hc.t1_89
  have hpfx : (c.t1 0x48#8).cat = .PFX := hc.t1_48_4F _ (by decide) (by decide)
  have hnp : (c.t1 0x89#8).cat ≠ .PFX := ne_pfx_of_hasModRM (hasModRM_of_M_or_MR hcat)
  have hend := prefixPhaseEnd_onePrefix (buf := bytesFrom [0x48#8, 0x89#8, 0xE5#8]) (n := 3) (by decide) hpfx
    (by decide) hnp
  rw [decodeResult_final hend (by decide) (e := c.t1 0x89#8) rfl hm, lengthVerdict_M_or_MR hcat]
  rfl

/-- Scenario 3: the escape, and a ModRM byte that names memory without a displacement (R102, R121). -/
theorem decodeResult_0F_1F_00 {c : Config} (hc : c.Valid) :
    decodeResult c (bytesFrom [0x0F#8, 0x1F#8, 0x00#8]) 3 = .valid 3 := by
  obtain ⟨hcat, hm⟩ := hc.t2_1F
  have hend := prefixPhaseEnd_escape (buf := bytesFrom [0x0F#8, 0x1F#8, 0x00#8]) (n := 3) hc.t1_0F rfl (by decide)
  rw [decodeResult_final hend (by decide) (e := c.t2 0x1F#8) rfl hm, lengthVerdict_M_or_MR hcat]
  rfl

/-- Scenario 4: an override, a displacement byte and an immediate byte (R103, R112). -/
theorem decodeResult_66_83_7D_FC_00 {c : Config} (hc : c.Valid) :
    decodeResult c (bytesFrom [0x66#8, 0x83#8, 0x7D#8, 0xFC#8, 0x00#8]) 5 = .valid 5 := by
  have hnp : (c.t1 0x83#8).cat ≠ .PFX := by rw [hc.t1_83]; decide
  have hend := prefixPhaseEnd_onePrefix (buf := bytesFrom [0x66#8, 0x83#8, 0x7D#8, 0xFC#8, 0x00#8]) (n := 5)
    (by decide) hc.t1_66 (by decide) hnp
  rw [decodeResult_final hend (by decide) (e := c.t1 0x83#8) rfl (by rw [hc.t1_83]), hc.t1_83]
  rfl

/-- Scenario 5: a ModRM opcode that the window ends with (R113). -/
theorem decodeResult_FF {c : Config} (hc : c.Valid) : decodeResult c (bytesFrom [0xFF#8]) 1 = .invalid := by
  obtain ⟨hcat, hm⟩ := hc.t1_FF
  have hend := prefixPhaseEnd_opcodeFirst (buf := bytesFrom [0xFF#8]) (ne_pfx_of_hasModRM hcat) 1
  rw [decodeResult_final hend (by decide) (e := c.t1 0xFF#8) rfl hm]
  exact lengthVerdict_modRM_missing hcat (Nat.le_refl 1)

/-- Scenario 6: the resolver reads `reg = 0` as `MI8`, behind a displacement of four bytes (R114, R175). -/
theorem decodeResult_F6_05 {c : Config} (hc : c.Valid) :
    decodeResult c (bytesFrom [0xF6#8, 0x05#8, 0x00#8, 0x00#8, 0x00#8, 0x00#8, 0x01#8]) 7 = .valid 7 := by
  obtain ⟨-, hnp⟩ := hc.t1_multi _ hc.t1_F6
  have hend := prefixPhaseEnd_opcodeFirst
    (buf := bytesFrom [0xF6#8, 0x05#8, 0x00#8, 0x00#8, 0x00#8, 0x00#8, 0x01#8]) hnp 7
  have hs : special c (bytesFrom [0xF6#8, 0x05#8, 0x00#8, 0x00#8, 0x00#8, 0x00#8, 0x01#8]) 0 7 false
      = .found .MI8 0 := rfl
  rw [decodeResult_found hend (by decide) (e := c.t1 0xF6#8) rfl hc.t1_F6 hs]
  rfl

/-- Settles O44, a scenario at a time. -/
theorem scenariosHoldForEveryValidConfiguration : Obligations.ScenariosHoldForEveryValidConfiguration :=
  fun _ hc => ⟨decodeResult_90 hc, decodeResult_48_89_E5 hc, decodeResult_0F_1F_00 hc, decodeResult_66_83_7D_FC_00 hc,
    decodeResult_FF hc, decodeResult_F6_05 hc⟩

end Sys2Proof.Machine
end

section
/-! PROOFS (70_reset_and_hazards.md). The caller's linear sweep (R270), under the abort and the skip policy (R239). Both
run on one fact: a launch at an offset inside the code advances by at least one byte and not beyond the end (R219), so
a launch for every remaining byte is enough to end the loop. -/

namespace Sys2Proof.Machine

/-! ### One round of the loop -/

theorem sweepFrom_end {c : Config} {code : List Byte} {off : Nat} (h : code.length ≤ off) (fuel : Nat) :
    sweepFrom c code fuel off = ⟨[], off, .done⟩ := by
  cases fuel with
  | zero => rfl
  | succ fuel => exact if_neg (Nat.not_lt.mpr h)

theorem sweepFrom_invalid {c : Config} {code : List Byte} {off : Nat} (h : off < code.length)
    (hr : decodeResult c (bytesFrom (code.drop off)) (code.length - off) = .invalid) (fuel : Nat) :
    sweepFrom c code (fuel + 1) off = ⟨[], off, .stoppedInvalid⟩ := by
  rw [sweepFrom, if_pos h, hr]

theorem sweepFrom_valid {c : Config} {code : List Byte} {off L : Nat} (h : off < code.length)
    (hr : decodeResult c (bytesFrom (code.drop off)) (code.length - off) = .valid L) (fuel : Nat) :
    sweepFrom c code (fuel + 1) off =
      { sweepFrom c code fuel (off + L) with lens := some L :: (sweepFrom c code fuel (off + L)).lens } := by
  rw [sweepFrom, if_pos h, hr]

theorem sweepSkipFrom_end {c : Config} {code : List Byte} {off : Nat} (h : code.length ≤ off) (fuel : Nat) :
    sweepSkipFrom c code fuel off = ⟨[], off, .done⟩ := by
  cases fuel with
  | zero => rfl
  | succ fuel => exact if_neg (Nat.not_lt.mpr h)

/-- A round of the skipping sweep goes on by the entry it puts in the list, a mark counting one byte (R239). -/
theorem sweepSkipFrom_inside (c : Config) {code : List Byte} {off : Nat} (h : off < code.length) (fuel : Nat) :
    ∃ x : Option Nat, 1 ≤ x.getD 1 ∧ off + x.getD 1 ≤ code.length ∧
      sweepSkipFrom c code (fuel + 1) off =
        { sweepSkipFrom c code fuel (off + x.getD 1) with
          lens := x :: (sweepSkipFrom c code fuel (off + x.getD 1)).lens } := by
  cases hr : decodeResult c (bytesFrom (code.drop off)) (code.length - off) with
  | invalid => exact ⟨none, Nat.le_refl 1, h, by rw [sweepSkipFrom, if_pos h, hr]; rfl⟩
  | valid L =>
    obtain ⟨hpos, -, hrest⟩ := returnedLengthIsBounded c _ _ L hr
    exact ⟨some L, hpos, Nat.add_le_of_le_sub' h.le hrest, by rw [sweepSkipFrom, if_pos h, hr]; rfl⟩

/-! ### The whole loop -/

/-- What a sweep from offset `off` says of the code when it ends with `r` (R270). -/
structure SweepTiles (c : Config) (code : List Byte) (off : Nat) (r : SweepEnd) : Prop where
  lengths : ∀ x ∈ r.lens, ∃ L, x = some L ∧ 1 ≤ L ∧ L ≤ 15
  sum : off + (r.lens.map fun x => x.getD 0).sum = r.off
  done : r.status = .done → r.off = code.length
  stopped : r.status = .stoppedInvalid → r.off < code.length ∧
    decodeResult c (bytesFrom (code.drop r.off)) (code.length - r.off) = .invalid

/-- One more length in front of a sweep. -/
theorem SweepTiles.cons {c : Config} {code : List Byte} {off L : Nat} {r : SweepEnd} (h : SweepTiles c code (off + L) r)
    (hpos : 1 ≤ L) (hmax : L ≤ 15) : SweepTiles c code off { r with lens := some L :: r.lens } where
  lengths x hx := by
    obtain rfl | hx := List.mem_cons.mp hx
    · exact ⟨L, rfl, hpos, hmax⟩
    · exact h.lengths x hx
  sum := by
    rw [List.map_cons, List.sum_cons, Option.getD_some, ← Nat.add_assoc]
    exact h.sum
  done := h.done
  stopped := h.stopped

/-- At the end of the code the loop is not entered. -/
theorem sweepFrom_tiles_end (c : Config) {code : List Byte} {off : Nat} (h : off = code.length) (fuel : Nat) :
    SweepTiles c code off (sweepFrom c code fuel off) := by
  rw [sweepFrom_end h.ge]
  exact ⟨nofun, rfl, fun _ => h, nofun⟩

/-- A sweep that may launch once for every byte left ends as R270 says. -/
theorem sweepFrom_tiles (c : Config) (code : List Byte) {fuel off : Nat} (hoff : off ≤ code.length)
    (hfuel : code.length - off ≤ fuel) : SweepTiles c code off (sweepFrom c code fuel off) := by
  induction fuel generalizing off with
  | zero => exact sweepFrom_tiles_end c (by omega) 0
  | succ fuel ih =>
    obtain h | h := hoff.eq_or_lt
    · exact sweepFrom_tiles_end c h _
    cases hr : decodeResult c (bytesFrom (code.drop off)) (code.length - off) with
    | invalid =>
      rw [sweepFrom_invalid h hr]
      exact ⟨nofun, rfl, nofun, fun _ => ⟨h, hr⟩⟩
    | valid L =>
      obtain ⟨hpos, hmax, hrest⟩ := returnedLengthIsBounded c _ _ L hr
      rw [sweepFrom_valid h hr]
      exact (ih (by omega) (by omega)).cons hpos hmax

/-- Settles O55: the sweep from offset 0 has a launch for every byte of the code. -/
theorem sweepTilesTheCode : Obligations.SweepTilesTheCode := by
  intro c code r
  have tiles : SweepTiles c code 0 r := sweepFrom_tiles c code (Nat.zero_le _) (Nat.sub_le _ _)
  exact ⟨tiles.lengths, (Nat.zero_add _).symm.trans tiles.sum, tiles.done, tiles.stopped⟩

/-- What the skipping sweep from offset `off` says of the code when it ends with `r` (R239, R270). -/
structure SkipTiles (code : List Byte) (off : Nat) (r : SweepEnd) : Prop where
  done : r.status = .done
  reached : r.off = code.length
  sum : off + (r.lens.map fun x => x.getD 1).sum = code.length

theorem sweepSkipFrom_tiles_end (c : Config) {code : List Byte} {off : Nat} (h : off = code.length) (fuel : Nat) :
    SkipTiles code off (sweepSkipFrom c code fuel off) := by
  rw [sweepSkipFrom_end h.ge]
  exact ⟨rfl, h, h⟩

/-- A skipping sweep that may launch once for every byte left reaches the end. -/
theorem sweepSkipFrom_tiles (c : Config) (code : List Byte) {fuel off : Nat} (hoff : off ≤ code.length)
    (hfuel : code.length - off ≤ fuel) : SkipTiles code off (sweepSkipFrom c code fuel off) := by
  induction fuel generalizing off with
  | zero => exact sweepSkipFrom_tiles_end c (by omega) 0
  | succ fuel ih =>
    obtain h | h := hoff.eq_or_lt
    · exact sweepSkipFrom_tiles_end c h _
    obtain ⟨x, hpos, hrest, hround⟩ := sweepSkipFrom_inside c h fuel
    have rest : SkipTiles code (off + x.getD 1) (sweepSkipFrom c code fuel (off + x.getD 1)) := ih hrest (by omega)
    rw [hround]
    refine ⟨rest.done, rest.reached, ?_⟩
    rw [List.map_cons, List.sum_cons, ← Nat.add_assoc]
    exact rest.sum

/-- Settles O56: the skipping sweep from offset 0 has a launch for every byte of the code. -/
theorem skippingSweepReachesTheEnd : Obligations.SkippingSweepReachesTheEnd := by
  intro c code
  have tiles : SkipTiles code 0 (sweepSkip c code) := sweepSkipFrom_tiles c code (Nat.zero_le _) (Nat.sub_le _ _)
  exact ⟨tiles.done, tiles.reached, (Nat.zero_add _).symm.trans tiles.sum⟩

end Sys2Proof.Machine
end
